-- ==== Sys2Proof/Word.lean ====
section
/-! DEFINITION. The plain words of the block: bytes, LBAs, and byte stores held as lists of cells. -/

namespace Sys2Proof

/-- One byte: every task-file register is 8 bits (00_scope R8, 10_state R21). -/
abbrev Byte := BitVec 8

/-- One internal LBA: start, end and current LBA are `u32` (00_scope R8, 10_state R46). -/
abbrev Lba := BitVec 32

/-- A byte store: cells in strictly rising address order, none of them zero; an unlisted address reads as
zero (`Memory.read`, `Memory.wf` in Machine/Memory.lean).  A medium image (20_memory R70, R76) and a 512-byte
block (10_state R44) are both held in this form. -/
abbrev Memory := List Host.Cell

/-- A 512-byte block (`u8[PIO_BUF_SIZE]`), held as a byte store whose addresses are below 512 (`Memory.isBlock`). -/
abbrev Block := Memory

end Sys2Proof
end

