-- ==== Sys2Proof/Config.lean ====
section
/-! DEFINITION. What an implementation fixes: the parameters of 00_scope R7, the driver capability record of
40_driver_capability R150 as plain data, and what is left free, which has no body: `draw()`, the backend oracle, and the
functions of a driver that no table of its record gives. -/

namespace Sys2Proof

/-- The free byte `draw()` of 00_scope R12: the k-th draw of a run.  No body: no law connects two uses. (log 3) -/
opaque Config.draw : Nat → Byte

/-- The storage backend's answer to its k-th call when State supplies none (20_memory R76): true is `Ok`,
false is `Fail`.  No body: a host I/O call may fail at any time. (log 4) -/
opaque Config.backendAnswer : Nat → Bool

/-- `PIO_BUF_SIZE` (00_scope R7). -/
def pioBufSize : Nat := 512

/-- A device index: 0 = master, 1 = slave (00_scope R7, `NUM_DEVICES`). -/
inductive Slot where
  | master
  | slave
deriving DecidableEq, Repr

/-- The kind of a DMA transfer mode (10_state R41): single-word, multiword, Ultra. -/
inductive DmaKind where
  | sw
  | mw
  | udma
deriving DecidableEq, Repr

/-- A CHS geometry (10_state R41); `Geometry.inRange` says heads is 1 to 16 and spt 1 to 255. -/
structure Geometry where
  heads : Nat
  spt : Nat
deriving DecidableEq, Repr

/-- What a driver's medium is at one moment: `hasMedium`, `capacity` in sectors, and the byte image
(40_driver_capability R150, R157; 20_memory R76). -/
structure Medium where
  present : Bool
  capacity : Lba
  img : Memory
deriving DecidableEq, Repr

/-- A condition on a medium: each part that is given must agree, a part left out agrees with everything. -/
structure MediumPattern where
  present : Option Bool
  capacity : Option Lba
  img : Option Memory
deriving DecidableEq, Repr

/-- A table for one OPEN function of a driver: the value beside the first condition that holds, else `otherwise`. (log 5) -/
structure OpenTable (π α : Type) where
  cases : List (π × α)
  otherwise : α
deriving DecidableEq, Repr

/-- Where the values of an OPEN predicate of a driver come from: written out in the record, or computed by the driver in a way
that the record only numbers (`Config.userAccessible`, `Config.securityUnlockOk`, `Config.setParamsOk`). (log 5) -/
inductive Given (α : Type) where
  | listed (v : α)
  | computed (n : Nat)
deriving DecidableEq, Repr

/-- A range of LBAs, `first` inclusive and `past` exclusive. -/
structure Region where
  first : Nat
  past : Nat
deriving DecidableEq, Repr

/-- The byte values a parameter block must hold at given offsets; a driver accepts a block that fits one of its
patterns, so any predicate on 512-byte blocks can be written (40_driver_capability R153). -/
abbrev BlockPattern := List (Nat × Byte)

/-- A rectangle of accepted geometries, all four bounds inclusive (40_driver_capability R154). -/
structure GeometryRange where
  headsMin : Nat
  headsMax : Nat
  sptMin : Nat
  sptMax : Nat
deriving DecidableEq, Repr

/-- `PIO_MODES(dev)`, `SWDMA_MODES(dev)`, `MWDMA_MODES(dev)`, `UDMA_MODES(dev)` of 00_scope R7: bit m of a mask
says that mode m is in the set.  PIO mode 0 always is, whatever the mask says (43_ata_commands R320). -/
structure ModeSets where
  pio : BitVec 8
  swdma : BitVec 8
  mwdma : BitVec 8
  udma : BitVec 8
deriving DecidableEq, Repr

/-- The DMA window `{start, end, cur, isWrite}`; `endLba` is exclusive (10_state R46). -/
structure DmaWindow where
  startLba : Lba
  endLba : Lba
  curLba : Lba
  isWrite : Bool
deriving DecidableEq, Repr

/-- What an identify record may be computed from: the fields of the device that `IdentifyDevice` is passed, and the medium of its
driver (40_driver_capability R150, R156; 10_state R41).  The bytes of the PIO buffer are not among them: no rule reads one that
the current command has not written (10_state R44). -/
structure IdentifyKey where
  pioMode : BitVec 3
  dmaMode : Option (DmaKind × BitVec 3)
  pioCursor : Nat
  dma : DmaWindow
  transferActive : Bool
  geometry : Option Geometry
  modes : ModeSets
  medium : Medium
deriving DecidableEq, Repr

/-- A condition on what a record is computed from: each part that is given must agree (40_driver_capability R156 names the
modes and the geometry). -/
structure IdentifyPattern where
  pioMode : Option (BitVec 3)
  dmaMode : Option (Option (DmaKind × BitVec 3))
  geometry : Option (Option Geometry)
  medium : MediumPattern
deriving DecidableEq, Repr

/-- Where an identify record comes from: there is none, which is the failure of R151 and R152; it is written out; the driver
computes it from the device, as `Config.identifyByte` of a number; or the driver computes it or fails, as
`Config.identifyFails` of that number says (40_driver_capability R151, R152, R156). (log 5) -/
inductive RecordSource where
  | absent
  | listed (record : Block)
  | computed (n : Nat)
  | computedOrFails (n : Nat)
deriving DecidableEq, Repr

/-- Byte `j` of the identify record that computation `n` gives for a device: any function of the key.  No body. (log 5) -/
opaque Config.identifyByte : Nat → IdentifyKey → Nat → Byte

/-- Computation `n` gives no record for a device: any predicate of the key.  No body. (log 5) -/
opaque Config.identifyFails : Nat → IdentifyKey → Bool

/-- Predicate `n` on the LBAs of a medium, for `IsLBAAddressUserAccessible` (40_driver_capability R162).  No body. (log 5) -/
opaque Config.userAccessible : Nat → Medium → Nat → Bool

/-- Predicate `n` on the parameter blocks of `SecurityUnlock` (40_driver_capability R153), on the byte at each offset of the
block.  No body. (log 5) -/
opaque Config.securityUnlockOk : Nat → Medium → List Byte → Bool

/-- Predicate `n` on heads and sectors per track, for `SetDeviceParameters` (40_driver_capability R154).  No body. (log 5) -/
opaque Config.setParamsOk : Nat → Medium → Nat → Nat → Bool

/-- The driver variants of 40_driver_capability R150. -/
inductive DriverKind where
  | dvd
  | null
  | hdd
deriving DecidableEq, Repr

/-- `GetPacketCommandSize`: 12 or 16 bytes (40_driver_capability R163).  No admitted command reads it. -/
inductive PacketCmdSize where
  | bytes12
  | bytes16
deriving DecidableEq, Repr

/-- The capability record of 40_driver_capability R150.  `id` is the model's own name of the record, so that
"the same record" (R169) can be said of plain data; each OPEN function stands as a table, an entry of which may be a function
without a body. (log 5, 6) -/
structure Driver where
  id : Nat
  kind : DriverKind
  supportsPacket : Bool
  supportsOverlap : Bool
  overlapEnabled : Bool
  sectorSize : Nat
  packetCmdSize : PacketCmdSize
  writable : Bool
  medium : Medium
  defaultGeometry : Option Geometry
  reserved : OpenTable MediumPattern (Given (List Region))
  identify : OpenTable IdentifyPattern RecordSource
  identifyPacket : OpenTable IdentifyPattern RecordSource
  unlock : OpenTable MediumPattern (Given (List BlockPattern))
  setParams : OpenTable MediumPattern (Given (List GeometryRange))
deriving DecidableEq, Repr

/-- A configuration of one channel: the parameters power-on reset takes (00_scope R7, 70_reset_and_hazards R600). -/
structure Configuration where
  master : Driver
  slave : Driver
  masterModes : ModeSets
  slaveModes : ModeSets
  unsupportedAborts : Bool
deriving DecidableEq, Repr

end Sys2Proof
end

