-- ==== Sys2Proof/Machine/Memory.lean ====
section
/-! DEFINITION. Byte stores: reading and writing one byte and a run of bytes, and the canonical form.
Used for the medium image of a driver (20_memory R70, R76) and for 512-byte blocks (10_state R44). -/

namespace Sys2Proof

/-- What an unlisted address reads as (log 7). -/
def Memory.unlisted : Byte := 0

/-- The byte at one address. -/
def Memory.read : Memory → Nat → Byte
  | [], _ => Memory.unlisted
  | (k, v) :: rest, a => if k = a then v else Memory.read rest a

/-- Store one byte, keeping the canonical form. -/
def Memory.write : Memory → Nat → Byte → Memory
  | [], a, v => if v = Memory.unlisted then [] else [(a, v)]
  | (k, w) :: rest, a, v =>
    if a < k then (if v = Memory.unlisted then (k, w) :: rest else (a, v) :: (k, w) :: rest)
    else if a = k then (if v = Memory.unlisted then rest else (a, v) :: rest)
    else (k, w) :: Memory.write rest a v

/-- The `n` bytes from address `a` on, in rising order (20_memory R72). -/
def Memory.readBytes (m : Memory) (a n : Nat) : List Byte :=
  (List.range n).map fun i => m.read (a + i)

/-- Store a run of bytes from address `a` on, in rising order (20_memory R72). -/
def Memory.writeBytes (m : Memory) (a : Nat) : List Byte → Memory
  | [] => m
  | v :: vs => Memory.writeBytes (m.write a v) (a + 1) vs

/-- Addresses strictly rising from `lo` on, and no cell equal to what an unlisted address reads as. -/
def Memory.wfFrom : Nat → Memory → Bool
  | _, [] => true
  | lo, (k, v) :: rest => decide (v ≠ Memory.unlisted) && decide (lo ≤ k) && Memory.wfFrom (k + 1) rest

/-- The canonical form: addresses strictly rising, and no cell equal to what an unlisted address reads as. -/
def Memory.wf (m : Memory) : Bool := Memory.wfFrom 0 m

/-- A store that holds a block of 512 bytes: canonical, and no listed address past the end (10_state R44). -/
def Memory.isBlock (m : Memory) : Bool :=
  Memory.wf m && m.all fun c => decide (c.1 < 512)

/-- The block whose byte `j` is `f j`, in canonical form. -/
def Memory.blockOf (f : Nat → Byte) : Block := Memory.writeBytes [] 0 ((List.range 512).map f)

end Sys2Proof
end

