-- ==== Sys2Proof/Machine/Driver.lean ====
section
/-! DEFINITION. The driver capability contract of 40_driver_capability: its pure queries over the record, the Null
variant, and the laws a record obeys (`Driver.conforms`). -/

namespace Sys2Proof

/-- The window after reset and after EndDMA (10_state R46). -/
def DmaWindow.idle : DmaWindow := { startLba := 0, endLba := 0, curLba := 0, isWrite := false }

/-- A part of a condition holds of a value: it is left out, or it is that value. -/
def agrees {α : Type} [DecidableEq α] (part : Option α) (v : α) : Bool :=
  match part with
  | none => true
  | some w => decide (w = v)

/-- The condition holds of a medium. -/
def MediumPattern.fits (p : MediumPattern) (m : Medium) : Bool :=
  agrees p.present m.present && agrees p.capacity m.capacity && agrees p.img m.img

/-- The condition holds of what a record is computed from. -/
def IdentifyPattern.fits (p : IdentifyPattern) (k : IdentifyKey) : Bool :=
  agrees p.pioMode k.pioMode && agrees p.dmaMode k.dmaMode && agrees p.geometry k.geometry && p.medium.fits k.medium

/-- The value of an OPEN table where `fits` says which conditions hold: the first that does decides. -/
def OpenTable.valueAt {π α : Type} (t : OpenTable π α) (fits : π → Bool) : α :=
  match t.cases.find? fun c => fits c.1 with
  | some c => c.2
  | none => t.otherwise

/-- The table with one value everywhere. -/
def OpenTable.const {π α : Type} (v : α) : OpenTable π α := { cases := [], otherwise := v }

/-- Every value the table can give satisfies `p`. -/
def OpenTable.all {π α : Type} (t : OpenTable π α) (p : α → Bool) : Bool :=
  p t.otherwise && t.cases.all fun c => p c.2

/-- heads is 1 to 16 and spt is 1 to 255 (10_state R41). -/
def Geometry.inRange (g : Geometry) : Bool :=
  decide (1 ≤ g.heads) && decide (g.heads ≤ 16) && decide (1 ≤ g.spt) && decide (g.spt ≤ 255)

/-- `IsLBAAddressUserAccessible` (40_driver_capability R162): false exactly in the reserved regions, or as the driver computes
it. -/
def Driver.userAccessible (drv : Driver) (lba : Nat) : Bool :=
  match drv.reserved.valueAt fun p => p.fits drv.medium with
  | .listed regions => !(regions.any fun r => decide (r.first ≤ lba) && decide (lba < r.past))
  | .computed n => Config.userAccessible n drv.medium lba

/-- Every LBA of `[start, start + count)` is user accessible (44_dma_engine R371). -/
def Driver.rangeAccessible (drv : Driver) (start count : Nat) : Bool :=
  (List.range count).all fun i => drv.userAccessible (start + i)

/-- `SecurityUnlock` (40_driver_capability R153): does the driver accept this parameter block? -/
def Driver.securityUnlockOk (drv : Driver) (block : Block) : Bool :=
  match drv.unlock.valueAt fun p => p.fits drv.medium with
  | .listed patterns => patterns.any fun p => p.all fun c => decide (Memory.read block c.1 = c.2)
  | .computed n => Config.securityUnlockOk n drv.medium (Memory.readBytes block 0 pioBufSize)

/-- `SetDeviceParameters` (40_driver_capability R154): does the driver accept this geometry? -/
def Driver.setParamsOk (drv : Driver) (heads spt : Nat) : Bool :=
  match drv.setParams.valueAt fun p => p.fits drv.medium with
  | .listed ranges => ranges.any fun r =>
      decide (r.headsMin ≤ heads) && decide (heads ≤ r.headsMax) && decide (r.sptMin ≤ spt) && decide (spt ≤ r.sptMax)
  | .computed n => Config.setParamsOk n drv.medium heads spt

/-- The identify record that computation `n` gives for a device. -/
def computedRecord (n : Nat) (k : IdentifyKey) : Block := Memory.blockOf (Config.identifyByte n k)

/-- The record a source gives for a device; `none` is the failure (40_driver_capability R151, R152). -/
def RecordSource.record (r : RecordSource) (k : IdentifyKey) : Option Block :=
  match r with
  | .absent => none
  | .listed b => some b
  | .computed n => some (computedRecord n k)
  | .computedOrFails n => if Config.identifyFails n k then none else some (computedRecord n k)

/-- `IdentifyDevice` (40_driver_capability R151, R156): a function of the device it is passed. -/
def Driver.identifyRecord (drv : Driver) (k : IdentifyKey) : Option Block :=
  (drv.identify.valueAt fun p => p.fits k).record k

/-- `IdentifyPacketDevice` (40_driver_capability R152, R156): a function of the device it is passed. -/
def Driver.identifyPacketRecord (drv : Driver) (k : IdentifyKey) : Option Block :=
  (drv.identifyPacket.valueAt fun p => p.fits k).record k

/-- The other slot of the channel. -/
def Slot.other (d : Slot) : Slot :=
  match d with
  | .master => .slave
  | .slave => .master

/-- The checks a driver makes before it asks the backend to read (40_driver_capability R158). -/
def Driver.readChecks (drv : Driver) (addr n : Nat) : Bool :=
  drv.medium.present && decide (addr + n ≤ drv.medium.capacity.toNat * drv.sectorSize)

/-- The checks a driver makes before it asks the backend to write (40_driver_capability R159). -/
def Driver.writeChecks (drv : Driver) (addr n : Nat) : Bool :=
  drv.writable && drv.medium.present && decide (addr + n ≤ drv.medium.capacity.toNat * drv.sectorSize)

/-- The driver with other bytes in its medium's image. -/
def Driver.withImage (drv : Driver) (img : Memory) : Driver := { drv with medium := { drv.medium with img := img } }

/-- The Null variant (40_driver_capability R166): no medium, every query false, every handler failing. -/
def Driver.null (id : Nat) : Driver :=
  { id := id, kind := .null, supportsPacket := false, supportsOverlap := false, overlapEnabled := false
    sectorSize := 512, packetCmdSize := .bytes12, writable := false
    medium := { present := false, capacity := 0, img := [] }
    defaultGeometry := none
    reserved := .const (.listed [{ first := 0, past := 4294967296 }])
    identify := .const .absent, identifyPacket := .const .absent
    unlock := .const (.listed []), setParams := .const (.listed []) }

/-- The DVD variant (40_driver_capability R165): the fixed fields, with the OPEN ones as arguments. -/
def Driver.dvd (id : Nat) (packetCmdSize : PacketCmdSize) (medium : Medium)
    (reserved : OpenTable MediumPattern (Given (List Region))) (identifyPacket : OpenTable IdentifyPattern RecordSource) :
    Driver :=
  { id := id, kind := .dvd, supportsPacket := true, supportsOverlap := false, overlapEnabled := false
    sectorSize := 2048, packetCmdSize := packetCmdSize, writable := false, medium := medium
    defaultGeometry := none, reserved := reserved
    identify := .const .absent, identifyPacket := identifyPacket
    unlock := .const (.listed []), setParams := .const (.listed []) }

/-- A medium obeys `¬hasMedium → capacity = 0` (40_driver_capability R157) and its image is canonical. -/
def Medium.lawful (m : Medium) : Bool :=
  (m.present || decide (m.capacity = 0)) && Memory.wf m.img

/-- A record that is written out is a 512-byte block (40_driver_capability R151, R152). -/
def RecordSource.lawful (r : RecordSource) : Bool :=
  match r with
  | .absent => true
  | .listed b => Memory.isBlock b
  | .computed _ => true
  | .computedOrFails _ => true

/-- The source never gives a record. -/
def RecordSource.isAbsent (r : RecordSource) : Bool := decide (r = .absent)

/-- The source gives a record for every device. -/
def RecordSource.neverFails (r : RecordSource) : Bool :=
  match r with
  | .absent => false
  | .listed _ => true
  | .computed _ => true
  | .computedOrFails _ => false

/-- The laws of 40_driver_capability that a record obeys: R152 and R157 for every variant, R165 for a DVD,
R166 for Null, and the widths of 10_state R41 for the default geometry. -/
def Driver.conforms (drv : Driver) : Bool :=
  drv.medium.lawful
    && drv.identify.all RecordSource.lawful && drv.identifyPacket.all RecordSource.lawful
    && (drv.supportsPacket || drv.identifyPacket.all RecordSource.isAbsent)
    && (drv.defaultGeometry.all Geometry.inRange)
    && (match drv.kind with
        | .hdd => true
        | .null => decide (drv = Driver.null drv.id)
        | .dvd => drv.identifyPacket.all RecordSource.neverFails
            && decide (drv = Driver.dvd drv.id drv.packetCmdSize drv.medium drv.reserved drv.identifyPacket))

/-- A configuration is well formed: both records obey the contract and neither is shared
(40_driver_capability R169, 70_reset_and_hazards R606). -/
def Configuration.wf (cfg : Configuration) : Bool :=
  cfg.master.conforms && cfg.slave.conforms && decide (cfg.master.id ≠ cfg.slave.id)

/-- The set holds a PIO mode; every set holds mode 0 (43_ata_commands R320, corner case 3). -/
def ModeSets.acceptsPio (s : ModeSets) (m : BitVec 3) : Bool :=
  decide (m = 0) || s.pio.getLsbD m.toNat

/-- The set of one kind holds a DMA mode (43_ata_commands R320). -/
def ModeSets.acceptsDma (s : ModeSets) (k : DmaKind) (m : BitVec 3) : Bool :=
  match k with
  | .sw => s.swdma.getLsbD m.toNat
  | .mw => s.mwdma.getLsbD m.toNat
  | .udma => s.udma.getLsbD m.toNat

end Sys2Proof
end

