-- ==== Sys2Proof/Machine/Flags.lean ====
section
/-! DEFINITION. The flag bits of Status, Error, Device/Head and Device Control, and the only values the block
writes to Status and Error (10_state R22, R28, R29, R31). -/

namespace Sys2Proof.Machine

/-- `ST_OK`: DRDY and DSC; a command ended in Success (10_state R29). -/
def stOk : Byte := 0x50

/-- `ST_ERR`: DRDY, DSC and ERR; a command ended in Error (10_state R29). -/
def stErr : Byte := 0x51

/-- `ST_DRQ`: DRDY, DSC and DRQ; a data phase is open (10_state R29). -/
def stDrq : Byte := 0x58

/-- `ST_BUSY`: BSY; soft reset is asserted (10_state R29). -/
def stBusy : Byte := 0x80

/-- `ST_SIG_ATA`: the reset value when device 0 is a non-packet hard disk (10_state R29). -/
def stSigAta : Byte := 0x50

/-- `ST_SIG_NONE`: the reset value otherwise (10_state R29). -/
def stSigNone : Byte := 0x00

/-- The Error value of a success (42_command_engine R257). -/
def errNone : Byte := 0x00

/-- The Error value of every failure: ABRT alone (10_state R22, 42_command_engine R257). -/
def errAbrt : Byte := 0x04

/-- The Error value reset loads (10_state R22). -/
def errReset : Byte := 0x01

/-- Status bit 7, BSY (10_state R29). -/
def bsy (status : Byte) : Bool := status.getLsbD 7

/-- Status bit 6, DRDY (10_state R29). -/
def drdy (status : Byte) : Bool := status.getLsbD 6

/-- Status bit 5, DF: never set by the block (10_state R29). -/
def df (status : Byte) : Bool := status.getLsbD 5

/-- Status bit 4, DSC: set together with DRDY (10_state R29). -/
def dsc (status : Byte) : Bool := status.getLsbD 4

/-- Status bit 3, DRQ (10_state R29). -/
def drq (status : Byte) : Bool := status.getLsbD 3

/-- Status bit 2, CORR: never set by the block (10_state R29). -/
def corr (status : Byte) : Bool := status.getLsbD 2

/-- Status bit 1, IDX: never set by the block (10_state R29). -/
def idx (status : Byte) : Bool := status.getLsbD 1

/-- Status bit 0, ERR: the last command failed (10_state R29). -/
def err (status : Byte) : Bool := status.getLsbD 0

/-- Error bit 2, ABRT: set on every command failure (10_state R22). -/
def abrt (error : Byte) : Bool := error.getLsbD 2

/-- Device Control bit 2, SRST (10_state R31). -/
def srst (devCtl : Byte) : Bool := devCtl.getLsbD 2

/-- Device Control bit 1, nIEN: 1 masks the interrupt output (10_state R31). -/
def nIEN (devCtl : Byte) : Bool := devCtl.getLsbD 1

/-- The Status value a reset loads: device 0 decides (70_reset_and_hazards R602, R605). -/
def signatureStatus (drv0 : Driver) : Byte :=
  if drv0.kind = .hdd ∧ drv0.supportsPacket = false then stSigAta else stSigNone

/-- The Cylinder Low value a reset loads (10_state R26, 70_reset_and_hazards R602). -/
def signatureCylLow (drv0 : Driver) : Byte := if drv0.supportsPacket then 0x14 else 0x00

/-- The Cylinder High value a reset loads (10_state R27, 70_reset_and_hazards R602). -/
def signatureCylHigh (drv0 : Driver) : Byte := if drv0.supportsPacket then 0xEB else 0x00

end Sys2Proof.Machine
end

