-- ==== Sys2Proof/Machine/Registers.lean ====
section
/-! DEFINITION. The register block (10_state R21) and what a reset loads into it. -/

namespace Sys2Proof.Machine

/-- The register block: one per channel, shared by both devices, every field a `u8` (10_state R21). -/
structure Regs where
  error : Byte
  features : Byte
  sectorCount : Byte
  sectorNumber : Byte
  cylLow : Byte
  cylHigh : Byte
  devHead : Byte
  status : Byte
  command : Byte
  devCtl : Byte
deriving DecidableEq, Repr

/-- The writable task-file registers, command-block offsets 1 to 6 (41_register_access R216). -/
inductive TaskReg where
  | features
  | sectorCount
  | sectorNumber
  | cylLow
  | cylHigh
  | devHead
deriving DecidableEq, Repr

/-- Store a byte in a writable task-file register (41_register_access R216): offset 1 writes Features, never Error. -/
def Regs.writeTask (r : Regs) (reg : TaskReg) (v : Byte) : Regs :=
  match reg with
  | .features => { r with features := v }
  | .sectorCount => { r with sectorCount := v }
  | .sectorNumber => { r with sectorNumber := v }
  | .cylLow => { r with cylLow := v }
  | .cylHigh => { r with cylHigh := v }
  | .devHead => { r with devHead := v }

/-- The byte a writable task-file register holds. -/
def Regs.readTask (r : Regs) (reg : TaskReg) : Byte :=
  match reg with
  | .features => r.features
  | .sectorCount => r.sectorCount
  | .sectorNumber => r.sectorNumber
  | .cylLow => r.cylLow
  | .cylHigh => r.cylHigh
  | .devHead => r.devHead

/-- Load the reset values of the task file; Command and Device Control keep their values
(70_reset_and_hazards R602, 10_state R22 to R29). -/
def Regs.loadSignature (r : Regs) (drv0 : Driver) : Regs :=
  { r with
    error := errReset, features := 0x00, sectorCount := 0x01, sectorNumber := 0x01
    cylLow := signatureCylLow drv0, cylHigh := signatureCylHigh drv0, devHead := 0x00
    status := signatureStatus drv0 }

/-- The register block at power-on (10_state R55): the signature, with Command and Device Control zero. -/
def Regs.powerOn (drv0 : Driver) : Regs :=
  ({ error := 0, features := 0, sectorCount := 0, sectorNumber := 0, cylLow := 0, cylHigh := 0, devHead := 0
     status := 0, command := 0x00, devCtl := 0x00 } : Regs).loadSignature drv0

end Sys2Proof.Machine
end

