-- ==== Sys2Proof/Syntax.lean ====
section
/-! DEFINITION. The operations of the block: one constructor of `Instr` per row of spec/opcode_table.json, and the
form in which an operation reaches the channel (`Request`): its format, its code, and the operands that the format
carries beside the code (30_encoding R100 to R104). -/

namespace Sys2Proof

/-- The fields of a PORT access code, `A = blk[7] : dir[6] : n_code[5:4] : 0[3] : off[2:0]` (30_encoding R100). -/
structure PortCode where
  blk : BitVec 1
  dir : BitVec 1
  nCode : BitVec 2
  zero : BitVec 1
  off : BitVec 3
deriving DecidableEq, Repr

/-- The four formats of 30_encoding: host register access, ATA command, bus-master operation, environment operation. -/
inductive Format where
  | port
  | cmd
  | dmaif
  | env
deriving DecidableEq, Repr

/-- The operands a request carries beside its code.  Every field is always there; an operation reads the ones its
format gives it: `value` the byte, word or double word a PORT write delivers; `width` the access width `n` of an access
whose width code is 3; `d` the device; `buf` the bus master's sector buffer; `present`, `capacity`, `img` the new medium;
`drv` the driver record (30_encoding R100, R103, R104). -/
structure Operands where
  value : BitVec 32
  width : BitVec 3
  d : Slot
  buf : List Byte
  present : Bool
  capacity : Lba
  img : Memory
  drv : Driver
deriving DecidableEq, Repr

/-- One operation as an agent presents it to the channel. -/
structure Request where
  format : Format
  code : Byte
  operands : Operands
deriving DecidableEq, Repr

/-- The operations of the block.  A command (format CMD) has no operand of its own: its operands are the task-file
registers as they stand at the Command write (30_encoding R102). -/
inductive Instr where
  /-- RD_DATA.b (inb CMD+0): rule R210. -/
  | rdDataB
  /-- RD_DATA.w (inw CMD+0): rule R210. -/
  | rdDataW
  /-- RD_DATA.d (ind CMD+0): rule R210. -/
  | rdDataD
  /-- WR_DATA.b (outb CMD+0): rule R212. -/
  | wrDataB (v : Byte)
  /-- WR_DATA.w (outw CMD+0): rule R212. -/
  | wrDataW (v : BitVec 16)
  /-- WR_DATA.d (outd CMD+0): rule R212. -/
  | wrDataD (v : BitVec 32)
  /-- RD_ERROR (inb CMD+1): rule R213. -/
  | rdError
  /-- RD_SECTOR_COUNT (inb CMD+2): rule R213. -/
  | rdSectorCount
  /-- RD_SECTOR_NUMBER (inb CMD+3): rule R213. -/
  | rdSectorNumber
  /-- RD_CYL_LOW (inb CMD+4): rule R213. -/
  | rdCylLow
  /-- RD_CYL_HIGH (inb CMD+5): rule R213. -/
  | rdCylHigh
  /-- RD_DEVICE_HEAD (inb CMD+6): rule R213. -/
  | rdDeviceHead
  /-- RD_STATUS (inb CMD+7): rule R214. -/
  | rdStatus
  /-- WR_FEATURES (outb CMD+1): rule R216. -/
  | wrFeatures (v : Byte)
  /-- WR_SECTOR_COUNT (outb CMD+2): rule R216. -/
  | wrSectorCount (v : Byte)
  /-- WR_SECTOR_NUMBER (outb CMD+3): rule R216. -/
  | wrSectorNumber (v : Byte)
  /-- WR_CYL_LOW (outb CMD+4): rule R216. -/
  | wrCylLow (v : Byte)
  /-- WR_CYL_HIGH (outb CMD+5): rule R216. -/
  | wrCylHigh (v : Byte)
  /-- WR_DEVICE_HEAD (outb CMD+6): rule R216. -/
  | wrDeviceHead (v : Byte)
  /-- WR_COMMAND (outb CMD+7): rule R215. -/
  | wrCommand (v : Byte)
  /-- RD_ALTSTATUS (inb CTL+6): rule R218. -/
  | rdAltStatus
  /-- WR_DEVCTL (outb CTL+6): rule R217. -/
  | wrDevCtl (v : Byte)
  /-- REFUSED width code 3 (n not in {1,2,4}): rule R219. -/
  | refusedWidth (blk : BitVec 1) (dir : BitVec 1) (zero : BitVec 1) (off : BitVec 3) (n : BitVec 3)
  /-- REFUSED any other PORT code (multi-byte non-Data access, control offsets 0-5 and 7, bit 3 set): rule R219. -/
  | refusedAccess (p : PortCode)
  /-- IDENTIFY DEVICE: rule R300. -/
  | identifyDevice
  /-- IDENTIFY PACKET DEVICE: rule R305. -/
  | identifyPacketDevice
  /-- INITIALIZE DEVICE PARAMETERS: rule R315. -/
  | initializeDeviceParameters
  /-- SET FEATURES: rule R320. -/
  | setFeatures
  /-- SECURITY UNLOCK: rule R325. -/
  | securityUnlock
  /-- READ DMA: rule R330. -/
  | readDma
  /-- WRITE DMA: rule R335. -/
  | writeDma
  /-- PACKET (refused): rule R340. -/
  | packet
  /-- NOP (unsupported): rule R262. -/
  | nop
  /-- DEVICE RESET (unsupported): rule R262. -/
  | deviceReset
  /-- READ SECTORS (unsupported): rule R262. -/
  | readSectors
  /-- READ SECTORS without retry (unsupported): rule R262. -/
  | readSectorsWithoutRetry
  /-- WRITE SECTORS (unsupported): rule R262. -/
  | writeSectors
  /-- WRITE SECTORS without retry (unsupported): rule R262. -/
  | writeSectorsWithoutRetry
  /-- READ VERIFY SECTORS (unsupported): rule R262. -/
  | readVerifySectors
  /-- READ VERIFY SECTORS without retry (unsupported): rule R262. -/
  | readVerifySectorsWithoutRetry
  /-- SEEK (unsupported): rule R262. -/
  | seek
  /-- EXECUTE DEVICE DIAGNOSTIC (unsupported): rule R262. -/
  | executeDeviceDiagnostic
  /-- DOWNLOAD MICROCODE (unsupported): rule R262. -/
  | downloadMicrocode
  /-- SERVICE (unsupported): rule R262. -/
  | service
  /-- SMART (unsupported): rule R262. -/
  | smart
  /-- READ MULTIPLE (unsupported): rule R262. -/
  | readMultiple
  /-- WRITE MULTIPLE (unsupported): rule R262. -/
  | writeMultiple
  /-- SET MULTIPLE MODE (unsupported): rule R262. -/
  | setMultipleMode
  /-- READ DMA QUEUED (unsupported): rule R262. -/
  | readDmaQueued
  /-- READ DMA without retry (unsupported): rule R262. -/
  | readDmaWithoutRetry
  /-- WRITE DMA without retry (unsupported): rule R262. -/
  | writeDmaWithoutRetry
  /-- WRITE DMA QUEUED (unsupported): rule R262. -/
  | writeDmaQueued
  /-- MEDIA LOCK (unsupported): rule R262. -/
  | mediaLock
  /-- MEDIA UNLOCK (unsupported): rule R262. -/
  | mediaUnlock
  /-- STANDBY IMMEDIATE (unsupported): rule R262. -/
  | standbyImmediate
  /-- IDLE IMMEDIATE (unsupported): rule R262. -/
  | idleImmediate
  /-- STANDBY (unsupported): rule R262. -/
  | standby
  /-- IDLE (unsupported): rule R262. -/
  | idle
  /-- READ BUFFER (unsupported): rule R262. -/
  | readBuffer
  /-- CHECK POWER MODE (unsupported): rule R262. -/
  | checkPowerMode
  /-- SLEEP (unsupported): rule R262. -/
  | sleep
  /-- FLUSH CACHE (unsupported): rule R262. -/
  | flushCache
  /-- WRITE BUFFER (unsupported): rule R262. -/
  | writeBuffer
  /-- MEDIA EJECT (unsupported): rule R262. -/
  | mediaEject
  /-- SECURITY SET PASSWORD (unsupported): rule R262. -/
  | securitySetPassword
  /-- SECURITY ERASE PREPARE (unsupported): rule R262. -/
  | securityErasePrepare
  /-- SECURITY ERASE UNIT (unsupported): rule R262. -/
  | securityEraseUnit
  /-- SECURITY FREEZE LOCK (unsupported): rule R262. -/
  | securityFreezeLock
  /-- SECURITY DISABLE PASSWORD (unsupported): rule R262. -/
  | securityDisablePassword
  /-- READ NATIVE MAX ADDRESS (unsupported): rule R262. -/
  | readNativeMaxAddress
  /-- SET MAX ADDRESS (unsupported): rule R262. -/
  | setMaxAddress
  /-- UNSUPPORTED (every other command byte): rule R262. -/
  | unsupportedOther (v : Byte)
  /-- DMA_READ_SECTOR (dma.rd d): rule R381. -/
  | dmaReadSector (d : Slot)
  /-- DMA_WRITE_SECTOR (dma.wr d, buf): rule R382. -/
  | dmaWriteSector (d : Slot) (buf : List Byte)
  /-- DMA_ABORT (dma.abort d): rule R383. -/
  | dmaAbort (d : Slot)
  /-- DMA_QUERY (dma.q d): rule R385. -/
  | dmaQuery (d : Slot)
  /-- MEDIUM_CHANGE (env.medium d, present, cap): rule R170. -/
  | mediumChange (d : Slot) (present : Bool) (capacity : Lba) (img : Memory)
  /-- ATTACH (env.attach d, drv): rule R172. -/
  | attach (d : Slot) (drv : Driver)
deriving DecidableEq, Repr

end Sys2Proof
end

