-- ==== Sys2Proof/Machine/State.lean ====
section
/-! DEFINITION. The state of one channel (10_state R20), the reasons a step stops, and the machine after reset. -/

namespace Sys2Proof.Machine

/-- The protocol of a command (10_state R36). -/
inductive Proto where
  | nonData
  | pioIn
  | pioOut
  | dma
deriving DecidableEq, Repr

/-- The phase of a command (10_state R36, R37). -/
inductive Phase where
  | pending
  | executing
  | dataPhase
  | success
  | error
  | finished
deriving DecidableEq, Repr

/-- The in-flight command object (10_state R36). -/
structure Command where
  opcode : Byte
  proto : Proto
  phase : Phase
  d : Slot
  feat : Byte
deriving DecidableEq, Repr

/-- One device slot (10_state R41); `modes` are the slot's supported transfer modes (00_scope R7). -/
structure Device where
  driver : Driver
  pioMode : BitVec 3
  dmaMode : Option (DmaKind × BitVec 3)
  pioBuf : Block
  pioCursor : Nat
  dma : DmaWindow
  transferActive : Bool
  geometry : Option Geometry
  modes : ModeSets
deriving DecidableEq, Repr

/-- Why a fault is recorded (60_exceptions R532, the closed list). -/
inductive FaultReason where
  | hostWriteDuringReset
  | commandWhileInFlight
  | taskFileWriteInDataPhase
  | dmaNoActiveWindow
  | dmaDirectionMismatch
  | dmaBadSectorBuffer
deriving DecidableEq, Repr

/-- Why a refusal is recorded (60_exceptions R533, the closed list). -/
inductive RefuseReason where
  | badRegisterAccess (blk : BitVec 1) (off : BitVec 3) (dir : BitVec 1) (n : Nat)
  | packetCommand
  | unsupportedCommand (v : Byte)
  | illFormedConfiguration
deriving DecidableEq, Repr

/-- The result of a backend call in the trace (10_state R54). -/
inductive IoResult where
  | ok
  | fail
deriving DecidableEq, Repr

/-- How a command ended (10_state R39, R54). -/
inductive Completion where
  | success
  | error
deriving DecidableEq, Repr

/-- The diagnostics of the block, one per place that logs one (60_exceptions R540). -/
inductive Diagnostic where
  | readDataOutsidePhase
  | writeDataOutsidePhase
  | unsupportedSubcode
  | modeOutOfRange
  | unsupportedCommand
  | dmaAborted
  | dmaAbortNoWindow
deriving DecidableEq, Repr

/-- The events of the output trace (10_state R54). -/
inductive Event where
  | diag (msg : Diagnostic)
  | irqRise
  | irqFall
  | backendRead (d : Slot) (addr n : Nat) (result : IoResult)
  | backendWrite (d : Slot) (addr n : Nat) (result : IoResult)
  | cmdStart (opcode : Byte) (d : Slot)
  | cmdEnd (opcode : Byte) (d : Slot) (result : Completion)
  | cmdAbort (opcode : Byte) (d : Slot)
  | resetDone
deriving DecidableEq, Repr

/-- The access widths of the Data register (20_memory R74). -/
inductive Width where
  | one
  | two
  | four
deriving DecidableEq, Repr

/-- What an operation returns to the agent that issued it: nothing; the value of a register read of some width;
`Ok(bytes)` of a sector read; `Ok` of a sector write; `Fail`; or the answer of a query. -/
inductive Reply where
  | none
  | value (n : Width) (v : BitVec 32)
  | sector (bytes : List Byte)
  | done
  | failed
  | query (active isWrite finished : Bool)
deriving DecidableEq, Repr

/-- The state of one channel.  The fields down to `trace` are the spec's (10_state R20); those below it are the
model's own: the parameter `UNSUPPORTED_ABORTS`, the operations the agents will issue (oldest first), the value
returned to the last one, the backend's next answers, and the counters behind `Config.backendAnswer` and `Config.draw`. -/
structure State where
  regs : Regs
  intPending : Bool
  cur : Option Command
  dev0 : Device
  dev1 : Device
  fault : Option FaultReason
  refused : Option RefuseReason
  trace : List Event
  unsupportedAborts : Bool
  inbox : List Request
  reply : Reply
  answers : List Bool
  backendCalls : Nat
  draws : Nat
deriving DecidableEq, Repr

/-- Why the machine has no step: a closed list. -/
inductive Fault where
  /-- Raised by every operation and by `step` in a state whose `fault` field is set: that state is quiescent, no agent
  steps from it (10_state R53, 60_exceptions R530).  Safe: the spec gives no step there. -/
  | faulted (reason : FaultReason)
deriving DecidableEq, Repr

/-- Why a request does not decode: a closed list. -/
inductive DecodeError where
  /-- The code has bits above the width of its format (30_encoding R103, R104).  Safe. -/
  | codeTooWide
  /-- The value of a PORT write has bits above its access width (30_encoding R100).  Safe. -/
  | valueTooWide
  /-- Width code 3 with a width that has a code of its own (30_encoding R100).  Safe. -/
  | widthHasCode
  /-- The image of a MEDIUM_CHANGE is no canonical byte store.  Safe: no image is lost, each has one canonical form. -/
  | imageNotCanonical
  /-- The record of an ATTACH breaks the contract of 40_driver_capability R150 to R168.  Safe. -/
  | driverOutOfContract
deriving DecidableEq, Repr

/-- Why the model gives an operation no meaning: a closed list. -/
inductive Refusal where
  /-- An instruction without a meaning: raised by an arm of `exec` only; no arm raises it.  Safe. -/
  | notModelled (mnemonic : String)
  /-- Raised by every operation and by `step` in a state whose `refused` field is set: that state is quiescent
  (10_state R53, 60_exceptions R531).  Safe: the spec gives no step there. -/
  | refusedState (reason : RefuseReason)
  /-- Raised by `mediumChange` and `attach` where the spec says the environment has no such step
  (40_driver_capability R170, R172).  Safe: no run of the block takes such a step. -/
  | operationNotEnabled
  /-- Raised by `step` on a request that is no operation of the block.  Safe. -/
  | undecodable (reason : DecodeError)
deriving DecidableEq, Repr

/-- A device slot at power-on (10_state R55).  The buffer bytes are unspecified there; the model's are zero (log 8). -/
def Device.powerOn (drv : Driver) (modes : ModeSets) : Device :=
  { driver := drv, pioMode := 0, dmaMode := none, pioBuf := [], pioCursor := pioBufSize, dma := .idle
    transferActive := false, geometry := drv.defaultGeometry, modes := modes }

/-- Power-on reset of a channel built from a configuration (70_reset_and_hazards R600, 10_state R55).  An ill-formed
configuration is refused at construction (40_driver_capability R169). -/
def State.powerOn (cfg : Configuration) : State :=
  { regs := .powerOn cfg.master, intPending := false, cur := none
    dev0 := .powerOn cfg.master cfg.masterModes, dev1 := .powerOn cfg.slave cfg.slaveModes
    fault := none, refused := if cfg.wf then none else some .illFormedConfiguration
    trace := [.resetDone]
    unsupportedAborts := cfg.unsupportedAborts
    inbox := [], reply := .none, answers := [], backendCalls := 0, draws := 0 }

/-- The transfer modes of the configuration `State.reset` is built from (log 9). -/
def modesAtReset : ModeSets := { pio := 0x1F, swdma := 0x07, mwdma := 0x07, udma := 0x07 }

/-- The configuration `State.reset` is built from: both slots unattached (log 9), `UNSUPPORTED_ABORTS = false`
(00_scope R7). -/
def configurationAtReset : Configuration :=
  { master := Driver.null 0, slave := Driver.null 1
    masterModes := modesAtReset, slaveModes := modesAtReset, unsupportedAborts := false }

/-- The machine right after power-on reset. -/
def State.reset : State := State.powerOn configurationAtReset

end Sys2Proof.Machine
end

