-- ==== Sys2Proof/Machine/Codes.lean ====
section
/-! DEFINITION. The codes that have a row of their own in the PORT and CMD formats, and the fields of an access code
(30_encoding R100, R120 to R123). -/

namespace Sys2Proof

/-- The access codes with a row of their own (30_encoding R123); every other code is refused. -/
def namedPortCodes : List Byte :=
  [0x00, 0x10, 0x20, 0x40, 0x50, 0x60, 0x01, 0x02,
   0x03, 0x04, 0x05, 0x06, 0x07, 0x41, 0x42, 0x43,
   0x44, 0x45, 0x46, 0x47, 0x86, 0xC6]

/-- The command bytes with a row of their own: the admitted ones, PACKET, and the unsupported ones that 30_encoding
R122 lists by name. -/
def namedCommandCodes : List Byte :=
  [0xEC, 0xA1, 0x91, 0xEF, 0xF2, 0xC8, 0xCA, 0xA0,
   0x00, 0x08, 0x20, 0x21, 0x30, 0x31, 0x40, 0x41,
   0x70, 0x90, 0x92, 0xA2, 0xB0, 0xC4, 0xC5, 0xC6,
   0xC7, 0xC9, 0xCB, 0xCC, 0xDE, 0xDF, 0xE0, 0xE1,
   0xE2, 0xE3, 0xE4, 0xE5, 0xE6, 0xE7, 0xE8, 0xED,
   0xF1, 0xF3, 0xF4, 0xF5, 0xF6, 0xF8, 0xF9]

/-- Split an access code into its fields (30_encoding R100). -/
def PortCode.unpack (a : Byte) : PortCode :=
  { blk := a.extractLsb' 7 1, dir := a.extractLsb' 6 1, nCode := a.extractLsb' 4 2, zero := a.extractLsb' 3 1
    off := a.extractLsb' 0 3 }

/-- Put an access code together from its fields (30_encoding R100). -/
def PortCode.pack (p : PortCode) : Byte :=
  p.blk ++ p.dir ++ p.nCode ++ p.zero ++ p.off

/-- The access width in bytes a width code stands for; code 3 is reserved (30_encoding R100). -/
def PortCode.widthBytes (p : PortCode) : Nat :=
  if p.nCode = 0 then 1 else if p.nCode = 1 then 2 else 4

end Sys2Proof
end

