-- ==== Sys2Proof/WellFormed.lean ====
section
/-! DEFINITION. Which terms of `Instr` are operations of the block. -/

namespace Sys2Proof

/-- The term is an operation the block's encodings can name: the width of a width-code-3 access has no code of its own,
an access of the catch-all row has a code no other row takes, an unlisted command byte is unlisted, a medium image is
canonical, and an attached record obeys the driver contract.  Every other form admits every operand. -/
def Instr.wellFormed (i : Instr) : Bool :=
  match i with
  | .rdDataB => true
  | .rdDataW => true
  | .rdDataD => true
  | .wrDataB _ => true
  | .wrDataW _ => true
  | .wrDataD _ => true
  | .rdError => true
  | .rdSectorCount => true
  | .rdSectorNumber => true
  | .rdCylLow => true
  | .rdCylHigh => true
  | .rdDeviceHead => true
  | .rdStatus => true
  | .wrFeatures _ => true
  | .wrSectorCount _ => true
  | .wrSectorNumber _ => true
  | .wrCylLow _ => true
  | .wrCylHigh _ => true
  | .wrDeviceHead _ => true
  | .wrCommand _ => true
  | .rdAltStatus => true
  | .wrDevCtl _ => true
  | .refusedWidth _ _ _ _ n => decide (n ≠ 1) && decide (n ≠ 2) && decide (n ≠ 4)
  | .refusedAccess p => decide (p.nCode ≠ 3) && !namedPortCodes.contains p.pack
  | .identifyDevice => true
  | .identifyPacketDevice => true
  | .initializeDeviceParameters => true
  | .setFeatures => true
  | .securityUnlock => true
  | .readDma => true
  | .writeDma => true
  | .packet => true
  | .nop => true
  | .deviceReset => true
  | .readSectors => true
  | .readSectorsWithoutRetry => true
  | .writeSectors => true
  | .writeSectorsWithoutRetry => true
  | .readVerifySectors => true
  | .readVerifySectorsWithoutRetry => true
  | .seek => true
  | .executeDeviceDiagnostic => true
  | .downloadMicrocode => true
  | .service => true
  | .smart => true
  | .readMultiple => true
  | .writeMultiple => true
  | .setMultipleMode => true
  | .readDmaQueued => true
  | .readDmaWithoutRetry => true
  | .writeDmaWithoutRetry => true
  | .writeDmaQueued => true
  | .mediaLock => true
  | .mediaUnlock => true
  | .standbyImmediate => true
  | .idleImmediate => true
  | .standby => true
  | .idle => true
  | .readBuffer => true
  | .checkPowerMode => true
  | .sleep => true
  | .flushCache => true
  | .writeBuffer => true
  | .mediaEject => true
  | .securitySetPassword => true
  | .securityErasePrepare => true
  | .securityEraseUnit => true
  | .securityFreezeLock => true
  | .securityDisablePassword => true
  | .readNativeMaxAddress => true
  | .setMaxAddress => true
  | .unsupportedOther v => !namedCommandCodes.contains v
  | .dmaReadSector _ => true
  | .dmaWriteSector _ _ => true
  | .dmaAbort _ => true
  | .dmaQuery _ => true
  | .mediumChange _ _ _ img => Memory.wf img
  | .attach _ drv => drv.conforms

end Sys2Proof
end

