-- ==== Sys2Proof/Decode.lean ====
section
/-! DEFINITION. The decoder of the four formats (30_encoding R100 to R104, R120 to R124), total on every request and
refusing by name, and the encoder beside it. -/

namespace Sys2Proof

open Machine (DecodeError)

/-- A row of the PORT table: the operation, or how it is made from the value of 1, 2 or 4 bytes that the access writes. -/
inductive PortRow where
  | plain (i : Instr)
  | byte (f : Byte → Instr)
  | word (f : BitVec 16 → Instr)
  | dword (f : BitVec 32 → Instr)

/-- A value of `w` bits from the value operand; a value that does not fit is refused (30_encoding R100). -/
def fitValue (w : Nat) (value : BitVec 32) : Except DecodeError (BitVec w) :=
  if value.toNat < 2 ^ w then .ok (value.setWidth w) else .error .valueTooWide

/-- The operation of a PORT row. -/
def PortRow.build (row : PortRow) (value : BitVec 32) : Except DecodeError Instr :=
  match row with
  | .plain i => .ok i
  | .byte f => (fitValue 8 value).map f
  | .word f => (fitValue 16 value).map f
  | .dword f => .ok (f value)

/-- The named rows of the PORT format, by access code (30_encoding R123, opcode_table). -/
def portTable : List (Byte × PortRow) :=
  [(0x00, .plain .rdDataB), (0x10, .plain .rdDataW), (0x20, .plain .rdDataD),
   (0x40, .byte .wrDataB), (0x50, .word .wrDataW), (0x60, .dword .wrDataD),
   (0x01, .plain .rdError), (0x02, .plain .rdSectorCount), (0x03, .plain .rdSectorNumber),
   (0x04, .plain .rdCylLow), (0x05, .plain .rdCylHigh), (0x06, .plain .rdDeviceHead),
   (0x07, .plain .rdStatus), (0x41, .byte .wrFeatures), (0x42, .byte .wrSectorCount),
   (0x43, .byte .wrSectorNumber), (0x44, .byte .wrCylLow), (0x45, .byte .wrCylHigh),
   (0x46, .byte .wrDeviceHead), (0x47, .byte .wrCommand), (0x86, .plain .rdAltStatus),
   (0xC6, .byte .wrDevCtl)]

/-- The named rows of the CMD format, by command byte (30_encoding R120 to R122, opcode_table). -/
def commandTable : List (Byte × Instr) :=
  [(0xEC, .identifyDevice), (0xA1, .identifyPacketDevice), (0x91, .initializeDeviceParameters),
   (0xEF, .setFeatures), (0xF2, .securityUnlock), (0xC8, .readDma),
   (0xCA, .writeDma), (0xA0, .packet), (0x00, .nop),
   (0x08, .deviceReset), (0x20, .readSectors), (0x21, .readSectorsWithoutRetry),
   (0x30, .writeSectors), (0x31, .writeSectorsWithoutRetry), (0x40, .readVerifySectors),
   (0x41, .readVerifySectorsWithoutRetry), (0x70, .seek), (0x90, .executeDeviceDiagnostic),
   (0x92, .downloadMicrocode), (0xA2, .service), (0xB0, .smart),
   (0xC4, .readMultiple), (0xC5, .writeMultiple), (0xC6, .setMultipleMode),
   (0xC7, .readDmaQueued), (0xC9, .readDmaWithoutRetry), (0xCB, .writeDmaWithoutRetry),
   (0xCC, .writeDmaQueued), (0xDE, .mediaLock), (0xDF, .mediaUnlock),
   (0xE0, .standbyImmediate), (0xE1, .idleImmediate), (0xE2, .standby),
   (0xE3, .idle), (0xE4, .readBuffer), (0xE5, .checkPowerMode),
   (0xE6, .sleep), (0xE7, .flushCache), (0xE8, .writeBuffer),
   (0xED, .mediaEject), (0xF1, .securitySetPassword), (0xF3, .securityErasePrepare),
   (0xF4, .securityEraseUnit), (0xF5, .securityFreezeLock), (0xF6, .securityDisablePassword),
   (0xF8, .readNativeMaxAddress), (0xF9, .setMaxAddress)]

/-- Format PORT: a named row first; then the row of the reserved width code; then the catch-all row (30_encoding R100,
R123, R124; the order is the table's priority). -/
def decodePort (code : Byte) (o : Operands) : Except DecodeError Instr :=
  match portTable.lookup code with
  | some row => row.build o.value
  | none =>
    let p := PortCode.unpack code
    if p.nCode = 3 then
      if o.width = 1 ∨ o.width = 2 ∨ o.width = 4 then .error .widthHasCode
      else .ok (.refusedWidth p.blk p.dir p.zero p.off o.width)
    else .ok (.refusedAccess p)

/-- Format CMD: the command byte alone selects the command (30_encoding R102, R120 to R122). -/
def decodeCommand (v : Byte) : Instr :=
  match commandTable.lookup v with
  | some i => i
  | none => .unsupportedOther v

/-- Format DMAIF: `op[1:0]` (30_encoding R103). -/
def decodeDmaif (code : Byte) (o : Operands) : Except DecodeError Instr :=
  if code = 0 then .ok (.dmaReadSector o.d)
  else if code = 1 then .ok (.dmaWriteSector o.d o.buf)
  else if code = 2 then .ok (.dmaAbort o.d)
  else if code = 3 then .ok (.dmaQuery o.d)
  else .error .codeTooWide

/-- Format ENV: `op[0]` (30_encoding R104). -/
def decodeEnv (code : Byte) (o : Operands) : Except DecodeError Instr :=
  if code = 0 then
    if Memory.wf o.img then .ok (.mediumChange o.d o.present o.capacity o.img) else .error .imageNotCanonical
  else if code = 1 then
    if o.drv.conforms then .ok (.attach o.d o.drv) else .error .driverOutOfContract
  else .error .codeTooWide

/-- Decode a request. -/
def decode (q : Request) : Except DecodeError Instr :=
  match q.format with
  | .port => decodePort q.code q.operands
  | .cmd => .ok (decodeCommand q.code)
  | .dmaif => decodeDmaif q.code q.operands
  | .env => decodeEnv q.code q.operands

/-- Operands whose every bit is zero: no value, device 0, an empty buffer, no medium, and the Null record 0. -/
def Operands.zero : Operands :=
  { value := 0, width := 0, d := .master, buf := [], present := false, capacity := 0, img := [], drv := Driver.null 0 }

/-- A request with only a code. -/
def Request.plain (format : Format) (code : Byte) : Request :=
  { format := format, code := code, operands := .zero }

/-- A PORT write of a value. -/
def Request.write (code : Byte) (value : BitVec 32) : Request :=
  { format := .port, code := code, operands := { Operands.zero with value := value } }

/-- A bus-master operation on a device. -/
def Request.onDevice (code : Byte) (d : Slot) (buf : List Byte) : Request :=
  { format := .dmaif, code := code, operands := { Operands.zero with d := d, buf := buf } }

/-- The request of an operation, written from the encoding tables of 30_encoding. -/
def encode (i : Instr) : Request :=
  match i with
  | .rdDataB => .plain .port 0x00
  | .rdDataW => .plain .port 0x10
  | .rdDataD => .plain .port 0x20
  | .wrDataB v => .write 0x40 (v.setWidth 32)
  | .wrDataW v => .write 0x50 (v.setWidth 32)
  | .wrDataD v => .write 0x60 v
  | .rdError => .plain .port 0x01
  | .rdSectorCount => .plain .port 0x02
  | .rdSectorNumber => .plain .port 0x03
  | .rdCylLow => .plain .port 0x04
  | .rdCylHigh => .plain .port 0x05
  | .rdDeviceHead => .plain .port 0x06
  | .rdStatus => .plain .port 0x07
  | .wrFeatures v => .write 0x41 (v.setWidth 32)
  | .wrSectorCount v => .write 0x42 (v.setWidth 32)
  | .wrSectorNumber v => .write 0x43 (v.setWidth 32)
  | .wrCylLow v => .write 0x44 (v.setWidth 32)
  | .wrCylHigh v => .write 0x45 (v.setWidth 32)
  | .wrDeviceHead v => .write 0x46 (v.setWidth 32)
  | .wrCommand v => .write 0x47 (v.setWidth 32)
  | .rdAltStatus => .plain .port 0x86
  | .wrDevCtl v => .write 0xC6 (v.setWidth 32)
  | .refusedWidth blk dir zero off n =>
    { format := .port, code := PortCode.pack { blk := blk, dir := dir, nCode := 3, zero := zero, off := off }
      operands := { Operands.zero with width := n } }
  | .refusedAccess p => .plain .port p.pack
  | .identifyDevice => .plain .cmd 0xEC
  | .identifyPacketDevice => .plain .cmd 0xA1
  | .initializeDeviceParameters => .plain .cmd 0x91
  | .setFeatures => .plain .cmd 0xEF
  | .securityUnlock => .plain .cmd 0xF2
  | .readDma => .plain .cmd 0xC8
  | .writeDma => .plain .cmd 0xCA
  | .packet => .plain .cmd 0xA0
  | .nop => .plain .cmd 0x00
  | .deviceReset => .plain .cmd 0x08
  | .readSectors => .plain .cmd 0x20
  | .readSectorsWithoutRetry => .plain .cmd 0x21
  | .writeSectors => .plain .cmd 0x30
  | .writeSectorsWithoutRetry => .plain .cmd 0x31
  | .readVerifySectors => .plain .cmd 0x40
  | .readVerifySectorsWithoutRetry => .plain .cmd 0x41
  | .seek => .plain .cmd 0x70
  | .executeDeviceDiagnostic => .plain .cmd 0x90
  | .downloadMicrocode => .plain .cmd 0x92
  | .service => .plain .cmd 0xA2
  | .smart => .plain .cmd 0xB0
  | .readMultiple => .plain .cmd 0xC4
  | .writeMultiple => .plain .cmd 0xC5
  | .setMultipleMode => .plain .cmd 0xC6
  | .readDmaQueued => .plain .cmd 0xC7
  | .readDmaWithoutRetry => .plain .cmd 0xC9
  | .writeDmaWithoutRetry => .plain .cmd 0xCB
  | .writeDmaQueued => .plain .cmd 0xCC
  | .mediaLock => .plain .cmd 0xDE
  | .mediaUnlock => .plain .cmd 0xDF
  | .standbyImmediate => .plain .cmd 0xE0
  | .idleImmediate => .plain .cmd 0xE1
  | .standby => .plain .cmd 0xE2
  | .idle => .plain .cmd 0xE3
  | .readBuffer => .plain .cmd 0xE4
  | .checkPowerMode => .plain .cmd 0xE5
  | .sleep => .plain .cmd 0xE6
  | .flushCache => .plain .cmd 0xE7
  | .writeBuffer => .plain .cmd 0xE8
  | .mediaEject => .plain .cmd 0xED
  | .securitySetPassword => .plain .cmd 0xF1
  | .securityErasePrepare => .plain .cmd 0xF3
  | .securityEraseUnit => .plain .cmd 0xF4
  | .securityFreezeLock => .plain .cmd 0xF5
  | .securityDisablePassword => .plain .cmd 0xF6
  | .readNativeMaxAddress => .plain .cmd 0xF8
  | .setMaxAddress => .plain .cmd 0xF9
  | .unsupportedOther v => .plain .cmd v
  | .dmaReadSector d => .onDevice 0x00 d []
  | .dmaWriteSector d buf => .onDevice 0x01 d buf
  | .dmaAbort d => .onDevice 0x02 d []
  | .dmaQuery d => .onDevice 0x03 d []
  | .mediumChange d present capacity img =>
    { format := .env, code := 0x00
      operands := { Operands.zero with d := d, present := present, capacity := capacity, img := img } }
  | .attach d drv =>
    { format := .env, code := 0x01, operands := { Operands.zero with d := d, drv := drv } }

/-- The format a table word belongs to.  The table numbers each format's codes from zero, so one byte can stand for rows
of several formats; the widths tell them apart where they differ (ENV has 1 bit, DMAIF 2, the operand word of CMD 56).  A
byte goes to the PORT row that has that very code, else to the CMD row that has it, else to PORT, which takes every code.
(log 10) -/
def tableFormat (nbits w : Nat) : Format :=
  let code := BitVec.ofNat 8 w
  if nbits = 1 then .env
  else if nbits = 2 then .dmaif
  else if 8 < nbits then .cmd
  else if namedPortCodes.contains code then .port
  else if namedCommandCodes.contains code then .cmd
  else .port

/-- The request that a table word stands for: the word's low byte as the code, every operand zero. -/
def tableRequest (nbits w : Nat) : Request :=
  .plain (tableFormat nbits w) (BitVec.ofNat 8 w)

/-- The operation the decoder reads from a word numbered as spec/opcode_table.json numbers it. -/
def decodeTableWord (nbits w : Nat) : Option Instr :=
  (decode (tableRequest nbits w)).toOption

end Sys2Proof
end

