-- ==== Sys2Proof/Machine/Operands.lean ====
section
/-! DEFINITION. The operands of commands and accesses: the command operand word and its fields (30_encoding R102), the LBA,
CHS, count, geometry and transfer-mode operands (R110 to R116), the CHS conversions (45_pio_and_addressing R430 to R432),
and the byte order of the Data register (20_memory R71). -/

namespace Sys2Proof.Machine

/-- The 56-bit operand word of a command (30_encoding R102). -/
abbrev CommandWord := BitVec 56

/-- The operand word as the registers stand (30_encoding R102). -/
def Regs.commandWord (r : Regs) : CommandWord :=
  r.devHead ++ r.cylHigh ++ r.cylLow ++ r.sectorNumber ++ r.sectorCount ++ r.features ++ r.command

/-- The registers with the bits of an operand word in them (30_encoding R102). -/
def Regs.loadCommandWord (r : Regs) (w : CommandWord) : Regs :=
  { r with
    command := w.extractLsb' 0 8, features := w.extractLsb' 8 8, sectorCount := w.extractLsb' 16 8
    sectorNumber := w.extractLsb' 24 8, cylLow := w.extractLsb' 32 8, cylHigh := w.extractLsb' 40 8
    devHead := w.extractLsb' 48 8 }

/-- `opcode`, bits 7:0. -/
def CommandWord.opcode (w : CommandWord) : Byte := w.extractLsb' 0 8

/-- `feat`, bits 15:8. -/
def CommandWord.feat (w : CommandWord) : Byte := w.extractLsb' 8 8

/-- `sc`, bits 23:16. -/
def CommandWord.sc (w : CommandWord) : Byte := w.extractLsb' 16 8

/-- `sn`, bits 31:24. -/
def CommandWord.sn (w : CommandWord) : Byte := w.extractLsb' 24 8

/-- `cl`, bits 39:32. -/
def CommandWord.cl (w : CommandWord) : Byte := w.extractLsb' 32 8

/-- `ch`, bits 47:40. -/
def CommandWord.ch (w : CommandWord) : Byte := w.extractLsb' 40 8

/-- `hs`, bits 51:48. -/
def CommandWord.hs (w : CommandWord) : BitVec 4 := w.extractLsb' 48 4

/-- `dev`, bit 52: the selected device (30_encoding R116). -/
def CommandWord.dev (w : CommandWord) : Slot := if w.getLsbD 52 then .slave else .master

/-- `L`, bit 54: 1 = LBA addressing, 0 = CHS addressing (30_encoding R113). -/
def CommandWord.lbaMode (w : CommandWord) : Bool := w.getLsbD 54

/-- `lba28 = hs : ch : cl : sn` (30_encoding R110). -/
def CommandWord.lba28 (w : CommandWord) : BitVec 28 := w.hs ++ w.ch ++ w.cl ++ w.sn

/-- `cyl = ch : cl` (30_encoding R111). -/
def CommandWord.cyl (w : CommandWord) : BitVec 16 := w.ch ++ w.cl

/-- The sector count: 0 means 256 (30_encoding R112). -/
def CommandWord.count (w : CommandWord) : Nat := if w.sc = 0 then 256 else w.sc.toNat

/-- `heads = hs + 1`, the operand of INITIALIZE DEVICE PARAMETERS (30_encoding R114). -/
def CommandWord.heads (w : CommandWord) : Nat := w.hs.toNat + 1

/-- `spt = sc`, the operand of INITIALIZE DEVICE PARAMETERS (30_encoding R114). -/
def CommandWord.spt (w : CommandWord) : Nat := w.sc.toNat

/-- What a transfer-mode value decodes to (30_encoding R115). -/
inductive TransferMode where
  | pio (m : BitVec 3)
  | dma (k : DmaKind) (m : BitVec 3)
  | invalid
deriving DecidableEq, Repr

/-- `DecodeMode`: `sc[7:3]` selects the kind, `sc[2:0]` is the mode number (30_encoding R115). -/
def decodeMode (sc : Byte) : TransferMode :=
  let kind : BitVec 5 := sc.extractLsb' 3 5
  let m : BitVec 3 := sc.extractLsb' 0 3
  if kind = 0b00000 then (if m = 0 ∨ m = 1 then .pio 0 else .invalid)
  else if kind = 0b00001 then .pio m
  else if kind = 0b00010 then .dma .sw m
  else if kind = 0b00100 then .dma .mw m
  else if kind = 0b01000 then .dma .udma m
  else .invalid

/-- `CHSToLBA` (45_pio_and_addressing R430), for `sec ≥ 1`. -/
def chsToLba (g : Geometry) (cyl head sec : Nat) : Nat :=
  (cyl * g.heads + head) * g.spt + (sec - 1)

/-- `LBAToCHS` (45_pio_and_addressing R431), for `g.heads ≥ 1` and `g.spt ≥ 1`. -/
def lbaToChs (g : Geometry) (lba : Nat) : Nat × Nat × Nat :=
  (lba / (g.heads * g.spt), (lba / g.spt) % g.heads, lba % g.spt + 1)

/-- `CHSValid` (45_pio_and_addressing R432). -/
def chsValid (g : Geometry) (head sec : Nat) : Bool :=
  decide (head < g.heads) && decide (1 ≤ sec) && decide (sec ≤ g.spt)

/-- The starting LBA a command word names: by LBA, or by CHS under the device's geometry; none where the CHS address has
no LBA (44_dma_engine R371, 30_encoding R110, R111). -/
def CommandWord.startLba (w : CommandWord) (geometry : Option Geometry) : Option Nat :=
  if w.lbaMode then some w.lba28.toNat
  else match geometry with
    | none => none
    | some g =>
      if chsValid g w.hs.toNat w.sn.toNat then some (chsToLba g w.cyl.toNat w.hs.toNat w.sn.toNat) else none

/-- The bytes an access of this width moves (20_memory R74). -/
def Width.bytes (n : Width) : Nat :=
  match n with
  | .one => 1
  | .two => 2
  | .four => 4

/-- The value whose bits `8k+7 : 8k` are byte k of the list, up to four bytes (20_memory R71). -/
def leValue (bytes : List Byte) : BitVec 32 :=
  bytes.foldr (fun b acc => (acc <<< 8) ||| b.setWidth 32) 0

/-- Byte k of a value, bits `8k+7 : 8k` (20_memory R71). -/
def byteOf (v : BitVec 32) (k : Nat) : Byte := v.extractLsb' (8 * k) 8

/-- The first `k` bytes of a value in the order of the Data register (20_memory R71). -/
def bytesOf (v : BitVec 32) (k : Nat) : List Byte := (List.range k).map (byteOf v)

end Sys2Proof.Machine
end

