-- ==== Sys2Proof/Machine/Ops.lean ====
section
/-! DEFINITION. The named operations over the state that the meanings share: devices, trace events, the interrupt, faults and
refusals, free values, the backend, and the frame of one atomic step. -/

namespace Sys2Proof.Machine

/-! ### Fields -/

/-- The device in a slot. -/
def State.dev (s : State) (d : Slot) : Device :=
  match d with
  | .master => s.dev0
  | .slave => s.dev1

/-- Replace the device in a slot. -/
def State.setDev (s : State) (d : Slot) (v : Device) : State :=
  match d with
  | .master => { s with dev0 := v }
  | .slave => { s with dev1 := v }

/-- Replace the register block. -/
def State.setRegs (s : State) (r : Regs) : State := { s with regs := r }

/-- Replace the in-flight command. -/
def State.setCur (s : State) (c : Option Command) : State := { s with cur := c }

/-- Set or clear the pending interrupt. -/
def State.setInt (s : State) (b : Bool) : State := { s with intPending := b }

/-- Record what the operation returns to its agent. -/
def State.setReply (s : State) (r : Reply) : State := { s with reply := r }

/-- Append an event to the trace (10_state R54). -/
def State.emit (s : State) (e : Event) : State := { s with trace := s.trace ++ [e] }

/-! ### Outcome primitives of 00_scope R12 -/

/-- `raise Fault(reason)` (60_exceptions R530): record the reason; the rest of the step does not happen. -/
def State.raiseFault (s : State) (r : FaultReason) : State := { s with fault := some r }

/-- `refuse(reason)` (60_exceptions R531): record the reason; the rest of the step does not happen. -/
def State.refuse (s : State) (r : RefuseReason) : State := { s with refused := some r }

/-- `Diag(msg)` (60_exceptions R540). -/
def State.diag (s : State) (m : Diagnostic) : State := s.emit (.diag m)

/-- The next `n` draws (00_scope R12). -/
def State.drawBytes (s : State) (n : Nat) : List Byte := (List.range n).map fun j => Config.draw (s.draws + j)

/-- The state after `n` draws. -/
def State.skipDraws (s : State) (n : Nat) : State := { s with draws := s.draws + n }

/-- The backend's answer to the next call: the next one supplied, else a free one (20_memory R76). -/
def State.backendAnswer (s : State) : Bool :=
  match s.answers with
  | [] => Config.backendAnswer s.backendCalls
  | a :: _ => a

/-- The state after a backend call. -/
def State.afterBackendCall (s : State) : State :=
  { s with answers := s.answers.tail, backendCalls := s.backendCalls + 1 }

/-! ### The interrupt request -/

/-- `irq = intPending ∧ ¬nIEN` (10_state R35, 60_exceptions R512). -/
def State.irq (s : State) : Bool := s.intPending && !nIEN s.regs.devCtl

/-- `Assert()` (60_exceptions R511): idempotent. -/
def State.assertInt (s : State) : State := s.setInt true

/-- Soft reset is asserted (41_register_access, `srst`). -/
def State.srst (s : State) : Bool := Machine.srst s.regs.devCtl

/-- The edge events at the end of a step, from the line before it and after it (60_exceptions R515). -/
def State.settle (after before : State) : State :=
  if before.irq = false ∧ after.irq = true then after.emit .irqRise
  else if before.irq = true ∧ after.irq = false then after.emit .irqFall
  else after

/-! ### One atomic step -/

/-- An operation is enabled only when neither a fault nor a refusal is recorded (10_state R53, 41_register_access R200);
elsewhere the machine has no step. -/
def whenEnabled (s : State) (k : Host.Outcome State Fault Refusal) : Host.Outcome State Fault Refusal :=
  match s.fault, s.refused with
  | some r, _ => .fault (.faulted r)
  | none, some r => .refused (.refusedState r)
  | none, none => k

/-- One operation as one atomic step (00_scope R13, 20_memory R78): its effect on the state, with nothing returned unless
the effect says so, and then the interrupt's edge events (41_register_access R200). -/
def atomically (f : State → State) (s : State) : Host.Outcome State Fault Refusal :=
  whenEnabled s (.next ((f (s.setReply .none)).settle s))

end Sys2Proof.Machine
end

