-- ==== Sys2Proof/Machine/Pio.lean ====
section
/-! DEFINITION. The PIO buffer of a device (45_pio_and_addressing R420 to R425). -/

namespace Sys2Proof.Machine

/-- `GetRemainingBufferLength` (45_pio_and_addressing R421). -/
def Device.remaining (D : Device) : Nat := pioBufSize - D.pioCursor

/-- How many bytes an access of `length` bytes moves at the cursor (45_pio_and_addressing R422, R424). -/
def Device.moveCount (D : Device) (length : Nat) : Nat := min length D.remaining

/-- `ReadBuffer`: the bytes it copies out (45_pio_and_addressing R422). -/
def Device.readBuffer (D : Device) (length : Nat) : List Byte :=
  Memory.readBytes D.pioBuf D.pioCursor (D.moveCount length)

/-- `ReadBuffer`: the cursor after it (45_pio_and_addressing R422). -/
def Device.afterRead (D : Device) (length : Nat) : Device :=
  { D with pioCursor := D.pioCursor + D.moveCount length }

/-- `WriteBuffer`: the buffer and the cursor after the first bytes of `v` are stored; the rest is discarded
(45_pio_and_addressing R424, 41_register_access R212). -/
def Device.writeBuffer (D : Device) (v : BitVec 32) (length : Nat) : Device :=
  { D with
    pioBuf := Memory.writeBytes D.pioBuf D.pioCursor (bytesOf v (D.moveCount length))
    pioCursor := D.pioCursor + D.moveCount length }

/-- Fill: a PIO data-in command puts all 512 bytes in at once and sets the cursor to 0 (45_pio_and_addressing R425). -/
def Device.fill (D : Device) (record : Block) : Device := { D with pioBuf := record, pioCursor := 0 }

/-- A PIO data-out command sets the cursor to 0 and leaves the bytes (45_pio_and_addressing R425). -/
def Device.rewind (D : Device) : Device := { D with pioCursor := 0 }

/-- The empty buffer: the cursor at the end (10_state R45). -/
def Device.drain (D : Device) : Device := { D with pioCursor := pioBufSize }

end Sys2Proof.Machine
end

