-- ==== Sys2Proof/Machine/Engine.lean ====
section
/-! DEFINITION. The command engine (42_command_engine): data-phase entry, completion, the end of each protocol, and what a
write of the Command register does before a command's own handler runs. -/

namespace Sys2Proof.Machine

/-- The current command, if it is in a data phase of protocol `p`. -/
def State.openPhase (s : State) (p : Proto) : Option Command :=
  match s.cur with
  | some c => if c.proto = p then some c else none
  | none => none

/-- `EnterDataPhase` (42_command_engine R255). -/
def enterDataPhase (c : Command) (assertNow : Bool) (s : State) : State :=
  let s := s.setRegs { s.regs with error := errNone, status := stDrq }
  let s := s.setCur (some { c with phase := .dataPhase })
  if assertNow then s.assertInt else s

/-- `Finish`: the command object is destroyed and its end recorded (42_command_engine R251, R257). -/
def finish (c : Command) (result : Completion) (s : State) : State :=
  (s.setCur none).emit (.cmdEnd c.opcode c.d result)

/-- The registers a completion leaves (42_command_engine R257). -/
def completionRegs (r : Regs) (ok : Bool) : Regs :=
  if ok then { r with error := errNone, status := stOk } else { r with error := errAbrt, status := stErr }

/-- How a completion reads in the trace. -/
def completionOf (ok : Bool) : Completion := if ok then .success else .error

/-- `Complete` (42_command_engine R257): final registers, one assertion, and the end of the command. -/
def complete (c : Command) (ok : Bool) (s : State) : State :=
  finish c (completionOf ok) (s.setRegs (completionRegs s.regs ok)).assertInt

/-- `PioInComplete` (42_command_engine R256): no interrupt. -/
def pioInComplete (c : Command) (s : State) : State :=
  finish c .success (s.setRegs { s.regs with status := stOk })

/-- `PioOutComplete` (42_command_engine R258); the one data-out handler is SECURITY UNLOCK's `finish`
(43_ata_commands R325). -/
def pioOutComplete (c : Command) (s : State) : State :=
  let ok := (s.dev c.d).driver.securityUnlockOk (s.dev c.d).pioBuf
  complete c ok (s.setDev c.d (s.dev c.d).drain)

/-- The non-data protocol (42_command_engine R254): the handler's step, then the completion it reports. -/
def nonDataExecute (c : Command) (stepResult : Bool × State) : State :=
  complete c stepResult.1 stepResult.2

/-- A write of the Command register (41_register_access R215): refused to a device in soft reset and to a channel with a
command in flight; else the byte is latched, the pending interrupt is cleared, and the command runs. -/
def commandWrite (v : Byte) (run : State → State) (s : State) : Host.Outcome State Fault Refusal :=
  atomically (fun s =>
    if s.srst then s.raiseFault .hostWriteDuringReset
    else if s.cur.isSome then s.raiseFault .commandWhileInFlight
    else run ((s.setRegs { s.regs with command := v }).setInt false)) s

/-- The command object that a Command write creates (42_command_engine R250): executing, on the selected device, with the
Features byte as it stands. -/
def newCommand (v : Byte) (proto : Proto) (s : State) : Command :=
  { opcode := v, proto := proto, phase := .executing, d := s.regs.commandWord.dev, feat := s.regs.commandWord.feat }

/-- `Dispatch` of an admitted command (42_command_engine R250): create the object, record the start, execute it. -/
def startCommand (v : Byte) (proto : Proto) (execute : Command → State → State) (s : State) : State :=
  execute (newCommand v proto s) (s.emit (.cmdStart v (newCommand v proto s).d))

/-- `Unsupported` (42_command_engine R262): a refusal, or a failed non-data command when `UNSUPPORTED_ABORTS` is set. -/
def unsupportedCommand (v : Byte) (s : State) : State :=
  if s.unsupportedAborts then
    complete (newCommand v .nonData s) false
      ((s.emit (.cmdStart v (newCommand v .nonData s).d)).diag .unsupportedCommand)
  else s.refuse (.unsupportedCommand v)

end Sys2Proof.Machine
end

