-- ==== Sys2Proof/Machine/Dma.lean ====
section
/-! DEFINITION. The DMA transfer engine (44_dma_engine) and the storage backend behind it (20_memory R76,
40_driver_capability R158, R159). -/

namespace Sys2Proof.Machine

/-- The window `BeginDMA` arms, if every check holds (44_dma_engine R371). -/
def Device.armedWindow (D : Device) (w : CommandWord) (isWrite : Bool) : Option DmaWindow :=
  if D.driver.medium.present then
    match w.startLba D.geometry with
    | none => none
    | some start =>
      if D.driver.medium.capacity.toNat < start + w.count then none
      else if D.driver.rangeAccessible start w.count then
        some { startLba := BitVec.ofNat 32 start, endLba := BitVec.ofNat 32 (start + w.count)
               curLba := BitVec.ofNat 32 start, isWrite := isWrite }
      else none
  else none

/-- `IsDMAFinished` (44_dma_engine R377). -/
def Device.isDmaFinished (D : Device) : Bool := decide (D.dma.curLba = D.dma.endLba)

/-- Arm a window (44_dma_engine R371). -/
def Device.arm (D : Device) (win : DmaWindow) : Device := { D with dma := win, transferActive := true }

/-- `EndDMA` (44_dma_engine R378). -/
def Device.endDma (D : Device) : Device := { D with dma := .idle, transferActive := false }

/-- The current LBA rises by one (44_dma_engine R374, R375). -/
def Device.advance (D : Device) : Device :=
  { D with dma := { D.dma with curLba := BitVec.ofNat 32 (D.dma.curLba.toNat + 1) } }

/-- The byte address of the sector at the current LBA (44_dma_engine R374). -/
def Device.sectorAddress (D : Device) : Nat := D.dma.curLba.toNat * D.driver.sectorSize

/-- `ReadDMA` (44_dma_engine R374): did the sector come, and the state after.  A failed check makes no backend call; a call
may fail; only a success advances the current LBA. -/
def readDmaSector (d : Slot) (s : State) : Bool × State :=
  let D := s.dev d
  let n := D.driver.sectorSize
  if D.driver.readChecks D.sectorAddress n then
    let s' := s.afterBackendCall
    if s.backendAnswer then (true, (s'.emit (.backendRead d D.sectorAddress n .ok)).setDev d D.advance)
    else (false, s'.emit (.backendRead d D.sectorAddress n .fail))
  else (false, s.emit (.backendRead d D.sectorAddress n .fail))

/-- The bytes of the sector at the current LBA (20_memory R72, 44_dma_engine R374). -/
def Device.sectorBytes (D : Device) : List Byte :=
  Memory.readBytes D.driver.medium.img D.sectorAddress D.driver.sectorSize

/-- The device after its medium takes the bytes of one sector at the current LBA. -/
def Device.storeSector (D : Device) (bytes : List Byte) : Device :=
  { D with driver := D.driver.withImage (Memory.writeBytes D.driver.medium.img D.sectorAddress bytes) }

/-- `WriteDMA` (44_dma_engine R375): did the sector go, and the state after.  A backend write that fails leaves every byte of
the sector a draw (20_memory R76). -/
def writeDmaSector (d : Slot) (buf : List Byte) (s : State) : Bool × State :=
  let D := s.dev d
  let n := D.driver.sectorSize
  if D.driver.writeChecks D.sectorAddress n then
    let s' := s.afterBackendCall
    if s.backendAnswer then
      (true, (s'.emit (.backendWrite d D.sectorAddress n .ok)).setDev d (D.storeSector buf).advance)
    else
      (false, ((s'.emit (.backendWrite d D.sectorAddress n .fail)).setDev d (D.storeSector (s.drawBytes n))).skipDraws n)
  else (false, s.emit (.backendWrite d D.sectorAddress n .fail))

/-- `DmaComplete` (42_command_engine R259): end the window of the current command, then complete it. -/
def dmaComplete (ok : Bool) (s : State) : State :=
  match s.cur with
  | none => s
  | some c => complete c ok (s.setDev c.d (s.dev c.d).endDma)

/-- `CheckWindow` (44_dma_engine R384): the fault to raise, if any. -/
def checkWindow (d : Slot) (isWrite : Bool) (s : State) : Option FaultReason :=
  match s.openPhase .dma with
  | none => some .dmaNoActiveWindow
  | some c =>
    if c.d = d ∧ (s.dev d).transferActive = true then
      if (s.dev d).dma.isWrite = isWrite then none else some .dmaDirectionMismatch
    else some .dmaNoActiveWindow

/-- What follows a sector transfer (44_dma_engine R381, R382): a failure ends the command; the last sector ends it in
success; else the command goes on.  `answer` is what a success returns to the bus master. -/
def afterSector (d : Slot) (answer : Reply) (moved : Bool × State) : State :=
  if moved.1 then
    if (moved.2.dev d).isDmaFinished then (dmaComplete true moved.2).setReply answer else moved.2.setReply answer
  else (dmaComplete false moved.2).setReply .failed

end Sys2Proof.Machine
end

