-- ==== Sys2Proof/Machine/AtaCommands.lean ====
section
/-! DEFINITION. The admitted ATA commands and PACKET (43_ata_commands): the handler of each command, and its meaning as a
write of the Command register with its byte.  The operands are the task-file registers as they stand at the write
(30_encoding R102). -/

namespace Sys2Proof.Machine

/-! ### The handlers -/

/-- What an identify handler does with the record it gets (43_ata_commands R300, R305): no record is a failure; a record
fills the buffer and opens a data-in phase with one interrupt. -/
def identifyWith (c : Command) (record : Option Block) (s : State) : State :=
  match record with
  | none => complete c false s
  | some rec => enterDataPhase c true (s.setDev c.d ((s.dev c.d).fill rec))

/-- What an identify record of the device may be computed from: all of the device (40_driver_capability R150, R156) but the
bytes of its PIO buffer, which the command has not written yet (10_state R44). -/
def Device.identifyKey (D : Device) : IdentifyKey :=
  { pioMode := D.pioMode, dmaMode := D.dmaMode, pioCursor := D.pioCursor, dma := D.dma
    transferActive := D.transferActive, geometry := D.geometry, modes := D.modes, medium := D.driver.medium }

/-- The handler of IDENTIFY DEVICE (43_ata_commands R300). -/
def identifyDevice (c : Command) (s : State) : State :=
  identifyWith c ((s.dev c.d).driver.identifyRecord (s.dev c.d).identifyKey) s

/-- The handler of IDENTIFY PACKET DEVICE (43_ata_commands R305). -/
def identifyPacketDevice (c : Command) (s : State) : State :=
  identifyWith c ((s.dev c.d).driver.identifyPacketRecord (s.dev c.d).identifyKey) s

/-- The step of INITIALIZE DEVICE PARAMETERS (43_ata_commands R315): zero sectors per track fail before the driver is
asked. -/
def initializeStep (c : Command) (s : State) : Bool × State :=
  let heads := s.regs.commandWord.heads
  let spt := s.regs.commandWord.spt
  if spt = 0 then (false, s)
  else if (s.dev c.d).driver.setParamsOk heads spt then
    (true, s.setDev c.d { s.dev c.d with geometry := some { heads := heads, spt := spt } })
  else (false, s)

/-- The handler of INITIALIZE DEVICE PARAMETERS (43_ata_commands R315). -/
def initializeDeviceParameters (c : Command) (s : State) : State := nonDataExecute c (initializeStep c s)

/-- The device accepts a PIO mode (43_ata_commands R320): never behind a Null driver, on which every command fails
(40_driver_capability R166); R320 says that mode 0 is accepted on every device (DESIGN CHOICE, log 24). -/
def Device.acceptsPio (D : Device) (m : BitVec 3) : Bool :=
  decide (D.driver.kind ≠ .null) && D.modes.acceptsPio m

/-- The device accepts a DMA mode of one kind (43_ata_commands R320), never behind a Null driver (40_driver_capability R166;
DESIGN CHOICE, log 24). -/
def Device.acceptsDma (D : Device) (k : DmaKind) (m : BitVec 3) : Bool :=
  decide (D.driver.kind ≠ .null) && D.modes.acceptsDma k m

/-- The step of SET FEATURES (43_ata_commands R320): subcode 0x03 selects a transfer mode that the device accepts; every other
subcode and every other mode fails with a diagnostic, and so does every mode on a Null driver (40_driver_capability R166; its
diagnostic is that of an unsupported mode: DESIGN CHOICE, log 24). -/
def setFeaturesStep (c : Command) (s : State) : Bool × State :=
  let D := s.dev c.d
  if c.feat = 0x03 then
    match decodeMode s.regs.commandWord.sc with
    | .pio m =>
      if D.acceptsPio m then (true, s.setDev c.d { D with pioMode := m }) else (false, s.diag .modeOutOfRange)
    | .dma k m =>
      if D.acceptsDma k m then (true, s.setDev c.d { D with dmaMode := some (k, m) })
      else (false, s.diag .modeOutOfRange)
    | .invalid => (false, s.diag .modeOutOfRange)
  else (false, s.diag .unsupportedSubcode)

/-- The handler of SET FEATURES (43_ata_commands R320). -/
def setFeatures (c : Command) (s : State) : State := nonDataExecute c (setFeaturesStep c s)

/-- The handler of SECURITY UNLOCK (43_ata_commands R325): no precondition, no interrupt yet. -/
def securityUnlock (c : Command) (s : State) : State :=
  enterDataPhase c false (s.setDev c.d (s.dev c.d).rewind)

/-- What READ DMA and WRITE DMA do (43_ata_commands R330, R335): arm the window and open the data phase, or fail. -/
def dmaCommand (isWrite : Bool) (c : Command) (s : State) : State :=
  match (s.dev c.d).armedWindow s.regs.commandWord isWrite with
  | none => complete c false s
  | some win => enterDataPhase c false (s.setDev c.d ((s.dev c.d).arm win))

/-- The handler of READ DMA (43_ata_commands R330). -/
def readDma (c : Command) (s : State) : State := dmaCommand false c s

/-- The handler of WRITE DMA (43_ata_commands R335). -/
def writeDma (c : Command) (s : State) : State := dmaCommand true c s

/-- PACKET (43_ata_commands R340): refused before a command object exists (42_command_engine R250). -/
def packet (s : State) : State := s.refuse .packetCommand

/-! ### The meanings -/

/-- IDENTIFY DEVICE (43_ata_commands R300). -/
def execIdentifyDevice (s : State) : Host.Outcome State Fault Refusal :=
  commandWrite 0xEC (startCommand 0xEC .pioIn identifyDevice) s

/-- IDENTIFY PACKET DEVICE (43_ata_commands R305). -/
def execIdentifyPacketDevice (s : State) : Host.Outcome State Fault Refusal :=
  commandWrite 0xA1 (startCommand 0xA1 .pioIn identifyPacketDevice) s

/-- INITIALIZE DEVICE PARAMETERS (43_ata_commands R315). -/
def execInitializeDeviceParameters (s : State) : Host.Outcome State Fault Refusal :=
  commandWrite 0x91 (startCommand 0x91 .nonData initializeDeviceParameters) s

/-- SET FEATURES (43_ata_commands R320). -/
def execSetFeatures (s : State) : Host.Outcome State Fault Refusal :=
  commandWrite 0xEF (startCommand 0xEF .nonData setFeatures) s

/-- SECURITY UNLOCK (43_ata_commands R325). -/
def execSecurityUnlock (s : State) : Host.Outcome State Fault Refusal :=
  commandWrite 0xF2 (startCommand 0xF2 .pioOut securityUnlock) s

/-- READ DMA (43_ata_commands R330). -/
def execReadDma (s : State) : Host.Outcome State Fault Refusal :=
  commandWrite 0xC8 (startCommand 0xC8 .dma readDma) s

/-- WRITE DMA (43_ata_commands R335). -/
def execWriteDma (s : State) : Host.Outcome State Fault Refusal :=
  commandWrite 0xCA (startCommand 0xCA .dma writeDma) s

/-- PACKET (43_ata_commands R340). -/
def execPacket (s : State) : Host.Outcome State Fault Refusal :=
  commandWrite 0xA0 packet s

end Sys2Proof.Machine
end

