-- ==== Sys2Proof/Machine/Unsupported.lean ====
section
/-! DEFINITION. The unsupported command bytes (42_command_engine R262, 30_encoding R122): every one has the same rule. -/

namespace Sys2Proof.Machine

/-- NOP, an unsupported command byte (42_command_engine R262). -/
def execNop (s : State) : Host.Outcome State Fault Refusal :=
  commandWrite 0x00 (unsupportedCommand 0x00) s

/-- DEVICE RESET, an unsupported command byte (42_command_engine R262). -/
def execDeviceReset (s : State) : Host.Outcome State Fault Refusal :=
  commandWrite 0x08 (unsupportedCommand 0x08) s

/-- READ SECTORS, an unsupported command byte (42_command_engine R262). -/
def execReadSectors (s : State) : Host.Outcome State Fault Refusal :=
  commandWrite 0x20 (unsupportedCommand 0x20) s

/-- READ SECTORS without retry, an unsupported command byte (42_command_engine R262). -/
def execReadSectorsWithoutRetry (s : State) : Host.Outcome State Fault Refusal :=
  commandWrite 0x21 (unsupportedCommand 0x21) s

/-- WRITE SECTORS, an unsupported command byte (42_command_engine R262). -/
def execWriteSectors (s : State) : Host.Outcome State Fault Refusal :=
  commandWrite 0x30 (unsupportedCommand 0x30) s

/-- WRITE SECTORS without retry, an unsupported command byte (42_command_engine R262). -/
def execWriteSectorsWithoutRetry (s : State) : Host.Outcome State Fault Refusal :=
  commandWrite 0x31 (unsupportedCommand 0x31) s

/-- READ VERIFY SECTORS, an unsupported command byte (42_command_engine R262). -/
def execReadVerifySectors (s : State) : Host.Outcome State Fault Refusal :=
  commandWrite 0x40 (unsupportedCommand 0x40) s

/-- READ VERIFY SECTORS without retry, an unsupported command byte (42_command_engine R262). -/
def execReadVerifySectorsWithoutRetry (s : State) : Host.Outcome State Fault Refusal :=
  commandWrite 0x41 (unsupportedCommand 0x41) s

/-- SEEK, an unsupported command byte (42_command_engine R262). -/
def execSeek (s : State) : Host.Outcome State Fault Refusal :=
  commandWrite 0x70 (unsupportedCommand 0x70) s

/-- EXECUTE DEVICE DIAGNOSTIC, an unsupported command byte (42_command_engine R262). -/
def execExecuteDeviceDiagnostic (s : State) : Host.Outcome State Fault Refusal :=
  commandWrite 0x90 (unsupportedCommand 0x90) s

/-- DOWNLOAD MICROCODE, an unsupported command byte (42_command_engine R262). -/
def execDownloadMicrocode (s : State) : Host.Outcome State Fault Refusal :=
  commandWrite 0x92 (unsupportedCommand 0x92) s

/-- SERVICE, an unsupported command byte (42_command_engine R262). -/
def execService (s : State) : Host.Outcome State Fault Refusal :=
  commandWrite 0xA2 (unsupportedCommand 0xA2) s

/-- SMART, an unsupported command byte (42_command_engine R262). -/
def execSmart (s : State) : Host.Outcome State Fault Refusal :=
  commandWrite 0xB0 (unsupportedCommand 0xB0) s

/-- READ MULTIPLE, an unsupported command byte (42_command_engine R262). -/
def execReadMultiple (s : State) : Host.Outcome State Fault Refusal :=
  commandWrite 0xC4 (unsupportedCommand 0xC4) s

/-- WRITE MULTIPLE, an unsupported command byte (42_command_engine R262). -/
def execWriteMultiple (s : State) : Host.Outcome State Fault Refusal :=
  commandWrite 0xC5 (unsupportedCommand 0xC5) s

/-- SET MULTIPLE MODE, an unsupported command byte (42_command_engine R262). -/
def execSetMultipleMode (s : State) : Host.Outcome State Fault Refusal :=
  commandWrite 0xC6 (unsupportedCommand 0xC6) s

/-- READ DMA QUEUED, an unsupported command byte (42_command_engine R262). -/
def execReadDmaQueued (s : State) : Host.Outcome State Fault Refusal :=
  commandWrite 0xC7 (unsupportedCommand 0xC7) s

/-- READ DMA without retry, an unsupported command byte (42_command_engine R262). -/
def execReadDmaWithoutRetry (s : State) : Host.Outcome State Fault Refusal :=
  commandWrite 0xC9 (unsupportedCommand 0xC9) s

/-- WRITE DMA without retry, an unsupported command byte (42_command_engine R262). -/
def execWriteDmaWithoutRetry (s : State) : Host.Outcome State Fault Refusal :=
  commandWrite 0xCB (unsupportedCommand 0xCB) s

/-- WRITE DMA QUEUED, an unsupported command byte (42_command_engine R262). -/
def execWriteDmaQueued (s : State) : Host.Outcome State Fault Refusal :=
  commandWrite 0xCC (unsupportedCommand 0xCC) s

/-- MEDIA LOCK, an unsupported command byte (42_command_engine R262). -/
def execMediaLock (s : State) : Host.Outcome State Fault Refusal :=
  commandWrite 0xDE (unsupportedCommand 0xDE) s

/-- MEDIA UNLOCK, an unsupported command byte (42_command_engine R262). -/
def execMediaUnlock (s : State) : Host.Outcome State Fault Refusal :=
  commandWrite 0xDF (unsupportedCommand 0xDF) s

/-- STANDBY IMMEDIATE, an unsupported command byte (42_command_engine R262). -/
def execStandbyImmediate (s : State) : Host.Outcome State Fault Refusal :=
  commandWrite 0xE0 (unsupportedCommand 0xE0) s

/-- IDLE IMMEDIATE, an unsupported command byte (42_command_engine R262). -/
def execIdleImmediate (s : State) : Host.Outcome State Fault Refusal :=
  commandWrite 0xE1 (unsupportedCommand 0xE1) s

/-- STANDBY, an unsupported command byte (42_command_engine R262). -/
def execStandby (s : State) : Host.Outcome State Fault Refusal :=
  commandWrite 0xE2 (unsupportedCommand 0xE2) s

/-- IDLE, an unsupported command byte (42_command_engine R262). -/
def execIdle (s : State) : Host.Outcome State Fault Refusal :=
  commandWrite 0xE3 (unsupportedCommand 0xE3) s

/-- READ BUFFER, an unsupported command byte (42_command_engine R262). -/
def execReadBuffer (s : State) : Host.Outcome State Fault Refusal :=
  commandWrite 0xE4 (unsupportedCommand 0xE4) s

/-- CHECK POWER MODE, an unsupported command byte (42_command_engine R262). -/
def execCheckPowerMode (s : State) : Host.Outcome State Fault Refusal :=
  commandWrite 0xE5 (unsupportedCommand 0xE5) s

/-- SLEEP, an unsupported command byte (42_command_engine R262). -/
def execSleep (s : State) : Host.Outcome State Fault Refusal :=
  commandWrite 0xE6 (unsupportedCommand 0xE6) s

/-- FLUSH CACHE, an unsupported command byte (42_command_engine R262). -/
def execFlushCache (s : State) : Host.Outcome State Fault Refusal :=
  commandWrite 0xE7 (unsupportedCommand 0xE7) s

/-- WRITE BUFFER, an unsupported command byte (42_command_engine R262). -/
def execWriteBuffer (s : State) : Host.Outcome State Fault Refusal :=
  commandWrite 0xE8 (unsupportedCommand 0xE8) s

/-- MEDIA EJECT, an unsupported command byte (42_command_engine R262). -/
def execMediaEject (s : State) : Host.Outcome State Fault Refusal :=
  commandWrite 0xED (unsupportedCommand 0xED) s

/-- SECURITY SET PASSWORD, an unsupported command byte (42_command_engine R262). -/
def execSecuritySetPassword (s : State) : Host.Outcome State Fault Refusal :=
  commandWrite 0xF1 (unsupportedCommand 0xF1) s

/-- SECURITY ERASE PREPARE, an unsupported command byte (42_command_engine R262). -/
def execSecurityErasePrepare (s : State) : Host.Outcome State Fault Refusal :=
  commandWrite 0xF3 (unsupportedCommand 0xF3) s

/-- SECURITY ERASE UNIT, an unsupported command byte (42_command_engine R262). -/
def execSecurityEraseUnit (s : State) : Host.Outcome State Fault Refusal :=
  commandWrite 0xF4 (unsupportedCommand 0xF4) s

/-- SECURITY FREEZE LOCK, an unsupported command byte (42_command_engine R262). -/
def execSecurityFreezeLock (s : State) : Host.Outcome State Fault Refusal :=
  commandWrite 0xF5 (unsupportedCommand 0xF5) s

/-- SECURITY DISABLE PASSWORD, an unsupported command byte (42_command_engine R262). -/
def execSecurityDisablePassword (s : State) : Host.Outcome State Fault Refusal :=
  commandWrite 0xF6 (unsupportedCommand 0xF6) s

/-- READ NATIVE MAX ADDRESS, an unsupported command byte (42_command_engine R262). -/
def execReadNativeMaxAddress (s : State) : Host.Outcome State Fault Refusal :=
  commandWrite 0xF8 (unsupportedCommand 0xF8) s

/-- SET MAX ADDRESS, an unsupported command byte (42_command_engine R262). -/
def execSetMaxAddress (s : State) : Host.Outcome State Fault Refusal :=
  commandWrite 0xF9 (unsupportedCommand 0xF9) s

/-- Every command byte without a row of its own (42_command_engine R262). -/
def execUnsupportedOther (v : Byte) (s : State) : Host.Outcome State Fault Refusal :=
  commandWrite v (unsupportedCommand v) s

end Sys2Proof.Machine
end

