-- ==== Sys2Proof/Machine/RegisterAccess.lean ====
section
/-! DEFINITION. Host register access (41_register_access): one meaning per PORT row of the opcode table. -/

namespace Sys2Proof.Machine

/-! ### Shared effects -/

/-- RD_DATA (41_register_access R210, R211): in a PIO data-in phase the next bytes of the buffer, draws past its end, and the
end of the command when the buffer is drained; anywhere else a diagnostic and draws. -/
def rdData (n : Width) (s : State) : State :=
  match s.openPhase .pioIn with
  | none =>
    ((s.diag .readDataOutsidePhase).setReply (.value n (leValue (s.drawBytes n.bytes)))).skipDraws n.bytes
  | some c =>
    let D := s.dev c.d
    let past := n.bytes - D.moveCount n.bytes
    let s := ((s.setReply (.value n (leValue (D.readBuffer n.bytes ++ s.drawBytes past)))).skipDraws past).setDev c.d
      (D.afterRead n.bytes)
    if (s.dev c.d).pioCursor = pioBufSize then pioInComplete c s else s

/-- WR_DATA (41_register_access R212, R211): in a PIO data-out phase the bytes go into the buffer, those past its end are
discarded, and a full buffer ends the command; anywhere else a diagnostic. -/
def wrData (n : Width) (v : BitVec 32) (s : State) : State :=
  match s.openPhase .pioOut with
  | none => s.diag .writeDataOutsidePhase
  | some c =>
    let s := s.setDev c.d ((s.dev c.d).writeBuffer v n.bytes)
    if (s.dev c.d).pioCursor = pioBufSize then pioOutComplete c s else s

/-- A read of one 8-bit register with no side effect (41_register_access R213, R218). -/
def rdReg (f : Regs → Byte) (s : State) : State := s.setReply (.value .one ((f s.regs).setWidth 32))

/-- WR_FEATURES and WR_TF (41_register_access R216): a fault in soft reset, a fault in a data phase, else the byte is stored. -/
def wrTask (reg : TaskReg) (v : Byte) (s : State) : State :=
  if s.srst then s.raiseFault .hostWriteDuringReset
  else if s.cur.isSome then s.raiseFault .taskFileWriteInDataPhase
  else s.setRegs (s.regs.writeTask reg v)

/-- RD_STATUS (41_register_access R214): the read acknowledges the interrupt. -/
def rdStatus (s : State) : State := (rdReg Regs.status s).setInt false

/-- A soft reset abandons the command in flight: no completion, no interrupt (70_reset_and_hazards R601). -/
def abandonCommand (s : State) : State :=
  match s.cur with
  | none => s
  | some c => (s.emit (.cmdAbort c.opcode c.d)).setCur none

/-- `SoftResetAssert` (70_reset_and_hazards R601). -/
def softResetAssert (s : State) : State :=
  let s := abandonCommand s
  let s := (s.setDev .master s.dev0.endDma.drain).setDev .slave s.dev1.endDma.drain
  (s.setInt false).setRegs { s.regs with status := stBusy }

/-- A device's settings after soft reset: the modes and the geometry are the default ones (70_reset_and_hazards R602). -/
def Device.defaultSettings (D : Device) : Device :=
  { D with pioMode := 0, dmaMode := none, geometry := D.driver.defaultGeometry }

/-- `SoftResetRelease` (70_reset_and_hazards R602): Command and Device Control are kept, no interrupt. -/
def softResetRelease (s : State) : State :=
  let s := (s.setDev .master s.dev0.defaultSettings).setDev .slave s.dev1.defaultSettings
  (s.setRegs (s.regs.loadSignature s.dev0.driver)).emit .resetDone

/-- WR_DEVCTL (41_register_access R217): the byte is stored in every phase; an edge of SRST starts or ends soft reset. -/
def wrDevCtl (v : Byte) (s : State) : State :=
  let old := s.regs.devCtl
  let s := s.setRegs { s.regs with devCtl := v }
  if Machine.srst old = false ∧ Machine.srst v = true then softResetAssert s
  else if Machine.srst old = true ∧ Machine.srst v = false then softResetRelease s
  else s

/-! ### The command table -/

/-- `Decode` and the handler table (42_command_engine R250, 30_encoding R120 to R122): what a Command write of each byte
runs. -/
def dispatch (v : Byte) : State → State :=
  if v = 0xEC then startCommand v .pioIn identifyDevice
  else if v = 0xA1 then startCommand v .pioIn identifyPacketDevice
  else if v = 0x91 then startCommand v .nonData initializeDeviceParameters
  else if v = 0xEF then startCommand v .nonData setFeatures
  else if v = 0xF2 then startCommand v .pioOut securityUnlock
  else if v = 0xC8 then startCommand v .dma readDma
  else if v = 0xCA then startCommand v .dma writeDma
  else if v = 0xA0 then packet
  else unsupportedCommand v

/-! ### The meanings -/

/-- RD_DATA of 1 byte(s) (41_register_access R210). -/
def execRdDataB (s : State) : Host.Outcome State Fault Refusal :=
  atomically (rdData .one) s

/-- RD_DATA of 2 byte(s) (41_register_access R210). -/
def execRdDataW (s : State) : Host.Outcome State Fault Refusal :=
  atomically (rdData .two) s

/-- RD_DATA of 4 byte(s) (41_register_access R210). -/
def execRdDataD (s : State) : Host.Outcome State Fault Refusal :=
  atomically (rdData .four) s

/-- WR_DATA of 1 byte(s) (41_register_access R212). -/
def execWrDataB (v : Byte) (s : State) : Host.Outcome State Fault Refusal :=
  atomically (wrData .one (v.setWidth 32)) s

/-- WR_DATA of 2 byte(s) (41_register_access R212). -/
def execWrDataW (v : BitVec 16) (s : State) : Host.Outcome State Fault Refusal :=
  atomically (wrData .two (v.setWidth 32)) s

/-- WR_DATA of 4 byte(s) (41_register_access R212). -/
def execWrDataD (v : BitVec 32) (s : State) : Host.Outcome State Fault Refusal :=
  atomically (wrData .four v) s

/-- RD_ERROR (41_register_access R213). -/
def execRdError (s : State) : Host.Outcome State Fault Refusal :=
  atomically (rdReg Regs.error) s

/-- RD_SECTOR_COUNT (41_register_access R213). -/
def execRdSectorCount (s : State) : Host.Outcome State Fault Refusal :=
  atomically (rdReg Regs.sectorCount) s

/-- RD_SECTOR_NUMBER (41_register_access R213). -/
def execRdSectorNumber (s : State) : Host.Outcome State Fault Refusal :=
  atomically (rdReg Regs.sectorNumber) s

/-- RD_CYL_LOW (41_register_access R213). -/
def execRdCylLow (s : State) : Host.Outcome State Fault Refusal :=
  atomically (rdReg Regs.cylLow) s

/-- RD_CYL_HIGH (41_register_access R213). -/
def execRdCylHigh (s : State) : Host.Outcome State Fault Refusal :=
  atomically (rdReg Regs.cylHigh) s

/-- RD_DEVICE_HEAD (41_register_access R213). -/
def execRdDeviceHead (s : State) : Host.Outcome State Fault Refusal :=
  atomically (rdReg Regs.devHead) s

/-- RD_STATUS (41_register_access R214). -/
def execRdStatus (s : State) : Host.Outcome State Fault Refusal :=
  atomically rdStatus s

/-- WR_FEATURES (41_register_access R216). -/
def execWrFeatures (v : Byte) (s : State) : Host.Outcome State Fault Refusal :=
  atomically (wrTask .features v) s

/-- WR_SECTOR_COUNT (41_register_access R216). -/
def execWrSectorCount (v : Byte) (s : State) : Host.Outcome State Fault Refusal :=
  atomically (wrTask .sectorCount v) s

/-- WR_SECTOR_NUMBER (41_register_access R216). -/
def execWrSectorNumber (v : Byte) (s : State) : Host.Outcome State Fault Refusal :=
  atomically (wrTask .sectorNumber v) s

/-- WR_CYL_LOW (41_register_access R216). -/
def execWrCylLow (v : Byte) (s : State) : Host.Outcome State Fault Refusal :=
  atomically (wrTask .cylLow v) s

/-- WR_CYL_HIGH (41_register_access R216). -/
def execWrCylHigh (v : Byte) (s : State) : Host.Outcome State Fault Refusal :=
  atomically (wrTask .cylHigh v) s

/-- WR_DEVICE_HEAD (41_register_access R216). -/
def execWrDeviceHead (v : Byte) (s : State) : Host.Outcome State Fault Refusal :=
  atomically (wrTask .devHead v) s

/-- WR_COMMAND (41_register_access R215). -/
def execWrCommand (v : Byte) (s : State) : Host.Outcome State Fault Refusal :=
  commandWrite v (dispatch v) s

/-- RD_ALTSTATUS (41_register_access R218). -/
def execRdAltStatus (s : State) : Host.Outcome State Fault Refusal :=
  atomically (rdReg Regs.status) s

/-- WR_DEVCTL (41_register_access R217). -/
def execWrDevCtl (v : Byte) (s : State) : Host.Outcome State Fault Refusal :=
  atomically (wrDevCtl v) s

/-- An access of a width other than 1, 2 and 4 bytes (41_register_access R219). -/
def execRefusedWidth (blk dir _zero : BitVec 1) (off n : BitVec 3) (s : State) : Host.Outcome State Fault Refusal :=
  atomically (fun s => s.refuse (.badRegisterAccess blk off dir n.toNat)) s

/-- A multi-byte access to an 8-bit register, an access to a control offset other than 6, or a code with bit 3 set
(41_register_access R219, 30_encoding R124). -/
def execRefusedAccess (p : PortCode) (s : State) : Host.Outcome State Fault Refusal :=
  atomically (fun s => s.refuse (.badRegisterAccess p.blk p.off p.dir p.widthBytes)) s

end Sys2Proof.Machine
end

