-- ==== Sys2Proof/Machine/BusMaster.lean ====
section
/-! DEFINITION. The bus-master sector interface (44_dma_engine R380 to R385): one meaning per DMAIF row. -/

namespace Sys2Proof.Machine

/-- DMA_READ_SECTOR (44_dma_engine R381). -/
def dmaReadSector (d : Slot) (s : State) : State :=
  match checkWindow d false s with
  | some r => s.raiseFault r
  | none => afterSector d (.sector (s.dev d).sectorBytes) (readDmaSector d s)

/-- DMA_WRITE_SECTOR (44_dma_engine R382): the buffer must be exactly one sector. -/
def dmaWriteSector (d : Slot) (buf : List Byte) (s : State) : State :=
  match checkWindow d true s with
  | some r => s.raiseFault r
  | none =>
    if buf.length = (s.dev d).driver.sectorSize then afterSector d .done (writeDmaSector d buf s)
    else s.raiseFault .dmaBadSectorBuffer

/-- DMA_ABORT (44_dma_engine R383): a command failure when this device's DMA command is current, else a diagnostic. -/
def dmaAbort (d : Slot) (s : State) : State :=
  match s.openPhase .dma with
  | none => s.diag .dmaAbortNoWindow
  | some c => if c.d = d then dmaComplete false (s.diag .dmaAborted) else s.diag .dmaAbortNoWindow

/-- DMA_QUERY (44_dma_engine R385). -/
def dmaQuery (d : Slot) (s : State) : State :=
  s.setReply (.query (s.dev d).transferActive (s.dev d).dma.isWrite (s.dev d).isDmaFinished)

/-- DMA_READ_SECTOR (44_dma_engine R381). -/
def execDmaReadSector (d : Slot) (s : State) : Host.Outcome State Fault Refusal :=
  atomically (dmaReadSector d) s

/-- DMA_WRITE_SECTOR (44_dma_engine R382). -/
def execDmaWriteSector (d : Slot) (buf : List Byte) (s : State) : Host.Outcome State Fault Refusal :=
  atomically (dmaWriteSector d buf) s

/-- DMA_ABORT (44_dma_engine R383). -/
def execDmaAbort (d : Slot) (s : State) : Host.Outcome State Fault Refusal :=
  atomically (dmaAbort d) s

/-- DMA_QUERY (44_dma_engine R385). -/
def execDmaQuery (d : Slot) (s : State) : Host.Outcome State Fault Refusal :=
  atomically (dmaQuery d) s

end Sys2Proof.Machine
end

