-- ==== Sys2Proof/Machine/Environment.lean ====
section
/-! DEFINITION. The environment operations (40_driver_capability R170, R172): one meaning per ENV row.  Where the spec says
that the environment has no such step, the operation is refused under a name of its own. -/

namespace Sys2Proof.Machine

/-- The medium after a change (40_driver_capability R170): without a disc the capacity is 0. -/
def newMedium (present : Bool) (capacity : Lba) (img : Memory) : Medium :=
  { present := present, capacity := if present then capacity else 0, img := img }

/-- The device after a medium change (40_driver_capability R170). -/
def Device.changeMedium (D : Device) (m : Medium) : Device := { D with driver := { D.driver with medium := m } }

/-- The device after a driver is attached (40_driver_capability R172): the buffer bytes and the slot's mode sets stay. -/
def Device.attach (D : Device) (drv : Driver) : Device :=
  { D with
    driver := drv, pioMode := 0, dmaMode := none, pioCursor := pioBufSize, dma := .idle, transferActive := false
    geometry := drv.defaultGeometry }

/-- An environment operation that is enabled only under a condition of its own. -/
def whenAllowed (allowed : Bool) (f : State → State) (s : State) : Host.Outcome State Fault Refusal :=
  if allowed then atomically f s else whenEnabled s (.refused .operationNotEnabled)

/-- MEDIUM_CHANGE (40_driver_capability R170): a step of the medium environment on a DVD only. -/
def execMediumChange (d : Slot) (present : Bool) (capacity : Lba) (img : Memory) (s : State) :
    Host.Outcome State Fault Refusal :=
  whenAllowed (decide ((s.dev d).driver.kind = .dvd))
    (fun s => s.setDev d ((s.dev d).changeMedium (newMedium present capacity img))) s

/-- ATTACH (40_driver_capability R172): a step of the glue only while no command is in flight, with a record that the other
slot does not reference. -/
def execAttach (d : Slot) (drv : Driver) (s : State) : Host.Outcome State Fault Refusal :=
  whenAllowed (s.cur.isNone && decide (drv.id ≠ (s.dev d.other).driver.id))
    (fun s => s.setDev d ((s.dev d).attach drv)) s

end Sys2Proof.Machine
end

