-- ==== Sys2Proof/Machine/Dispatch.lean ====
section
/-! DEFINITION. What each operation does: one direct call of its meaning per constructor of `Instr`. -/

namespace Sys2Proof.Machine

def exec (i : Instr) (s : State) : Host.Outcome State Fault Refusal :=
  match i with
  | .rdDataB => Sys2Proof.Machine.execRdDataB s
  | .rdDataW => Sys2Proof.Machine.execRdDataW s
  | .rdDataD => Sys2Proof.Machine.execRdDataD s
  | .wrDataB v => Sys2Proof.Machine.execWrDataB v s
  | .wrDataW v => Sys2Proof.Machine.execWrDataW v s
  | .wrDataD v => Sys2Proof.Machine.execWrDataD v s
  | .rdError => Sys2Proof.Machine.execRdError s
  | .rdSectorCount => Sys2Proof.Machine.execRdSectorCount s
  | .rdSectorNumber => Sys2Proof.Machine.execRdSectorNumber s
  | .rdCylLow => Sys2Proof.Machine.execRdCylLow s
  | .rdCylHigh => Sys2Proof.Machine.execRdCylHigh s
  | .rdDeviceHead => Sys2Proof.Machine.execRdDeviceHead s
  | .rdStatus => Sys2Proof.Machine.execRdStatus s
  | .wrFeatures v => Sys2Proof.Machine.execWrFeatures v s
  | .wrSectorCount v => Sys2Proof.Machine.execWrSectorCount v s
  | .wrSectorNumber v => Sys2Proof.Machine.execWrSectorNumber v s
  | .wrCylLow v => Sys2Proof.Machine.execWrCylLow v s
  | .wrCylHigh v => Sys2Proof.Machine.execWrCylHigh v s
  | .wrDeviceHead v => Sys2Proof.Machine.execWrDeviceHead v s
  | .wrCommand v => Sys2Proof.Machine.execWrCommand v s
  | .rdAltStatus => Sys2Proof.Machine.execRdAltStatus s
  | .wrDevCtl v => Sys2Proof.Machine.execWrDevCtl v s
  | .refusedWidth blk dir zero off n => Sys2Proof.Machine.execRefusedWidth blk dir zero off n s
  | .refusedAccess p => Sys2Proof.Machine.execRefusedAccess p s
  | .identifyDevice => Sys2Proof.Machine.execIdentifyDevice s
  | .identifyPacketDevice => Sys2Proof.Machine.execIdentifyPacketDevice s
  | .initializeDeviceParameters => Sys2Proof.Machine.execInitializeDeviceParameters s
  | .setFeatures => Sys2Proof.Machine.execSetFeatures s
  | .securityUnlock => Sys2Proof.Machine.execSecurityUnlock s
  | .readDma => Sys2Proof.Machine.execReadDma s
  | .writeDma => Sys2Proof.Machine.execWriteDma s
  | .packet => Sys2Proof.Machine.execPacket s
  | .nop => Sys2Proof.Machine.execNop s
  | .deviceReset => Sys2Proof.Machine.execDeviceReset s
  | .readSectors => Sys2Proof.Machine.execReadSectors s
  | .readSectorsWithoutRetry => Sys2Proof.Machine.execReadSectorsWithoutRetry s
  | .writeSectors => Sys2Proof.Machine.execWriteSectors s
  | .writeSectorsWithoutRetry => Sys2Proof.Machine.execWriteSectorsWithoutRetry s
  | .readVerifySectors => Sys2Proof.Machine.execReadVerifySectors s
  | .readVerifySectorsWithoutRetry => Sys2Proof.Machine.execReadVerifySectorsWithoutRetry s
  | .seek => Sys2Proof.Machine.execSeek s
  | .executeDeviceDiagnostic => Sys2Proof.Machine.execExecuteDeviceDiagnostic s
  | .downloadMicrocode => Sys2Proof.Machine.execDownloadMicrocode s
  | .service => Sys2Proof.Machine.execService s
  | .smart => Sys2Proof.Machine.execSmart s
  | .readMultiple => Sys2Proof.Machine.execReadMultiple s
  | .writeMultiple => Sys2Proof.Machine.execWriteMultiple s
  | .setMultipleMode => Sys2Proof.Machine.execSetMultipleMode s
  | .readDmaQueued => Sys2Proof.Machine.execReadDmaQueued s
  | .readDmaWithoutRetry => Sys2Proof.Machine.execReadDmaWithoutRetry s
  | .writeDmaWithoutRetry => Sys2Proof.Machine.execWriteDmaWithoutRetry s
  | .writeDmaQueued => Sys2Proof.Machine.execWriteDmaQueued s
  | .mediaLock => Sys2Proof.Machine.execMediaLock s
  | .mediaUnlock => Sys2Proof.Machine.execMediaUnlock s
  | .standbyImmediate => Sys2Proof.Machine.execStandbyImmediate s
  | .idleImmediate => Sys2Proof.Machine.execIdleImmediate s
  | .standby => Sys2Proof.Machine.execStandby s
  | .idle => Sys2Proof.Machine.execIdle s
  | .readBuffer => Sys2Proof.Machine.execReadBuffer s
  | .checkPowerMode => Sys2Proof.Machine.execCheckPowerMode s
  | .sleep => Sys2Proof.Machine.execSleep s
  | .flushCache => Sys2Proof.Machine.execFlushCache s
  | .writeBuffer => Sys2Proof.Machine.execWriteBuffer s
  | .mediaEject => Sys2Proof.Machine.execMediaEject s
  | .securitySetPassword => Sys2Proof.Machine.execSecuritySetPassword s
  | .securityErasePrepare => Sys2Proof.Machine.execSecurityErasePrepare s
  | .securityEraseUnit => Sys2Proof.Machine.execSecurityEraseUnit s
  | .securityFreezeLock => Sys2Proof.Machine.execSecurityFreezeLock s
  | .securityDisablePassword => Sys2Proof.Machine.execSecurityDisablePassword s
  | .readNativeMaxAddress => Sys2Proof.Machine.execReadNativeMaxAddress s
  | .setMaxAddress => Sys2Proof.Machine.execSetMaxAddress s
  | .unsupportedOther v => Sys2Proof.Machine.execUnsupportedOther v s
  | .dmaReadSector d => Sys2Proof.Machine.execDmaReadSector d s
  | .dmaWriteSector d buf => Sys2Proof.Machine.execDmaWriteSector d buf s
  | .dmaAbort d => Sys2Proof.Machine.execDmaAbort d s
  | .dmaQuery d => Sys2Proof.Machine.execDmaQuery d s
  | .mediumChange d present capacity img => Sys2Proof.Machine.execMediumChange d present capacity img s
  | .attach d drv => Sys2Proof.Machine.execAttach d drv s

end Sys2Proof.Machine
end

