-- ==== Sys2Proof/Machine/Step.lean ====
section
/-! DEFINITION. One step of the machine: the next operation that an agent presents is decoded and run (00_scope R13, R14). -/

namespace Sys2Proof.Machine

/-- Take the next request out of the inbox. -/
def State.withInbox (s : State) (rest : List Request) : State := { s with inbox := rest }

/-- Decode one request and run it; a request that is no operation is refused by name. -/
def runRequest (q : Request) (s : State) : Host.Outcome State Fault Refusal :=
  match decode q with
  | .ok i => exec i s
  | .error e => .refused (.undecodable e)

/-- One step: a recorded fault or refusal has no step (10_state R53); with no operation waiting nothing moves; else the
oldest request is taken out and run. -/
def step (s : State) : Host.Outcome State Fault Refusal :=
  whenEnabled s
    (match s.inbox with
     | [] => .next s
     | q :: rest => runRequest q (s.withInbox rest))

/-- The state with a table word as the very next operation.  A word of the CMD format that is wider than its command byte
holds the task file in its upper bits, so they go where a Command write finds them (30_encoding R102). (log 10) -/
def State.withFetchWord (s : State) (nbits w : Nat) : State :=
  { s with
    inbox := tableRequest nbits w :: s.inbox
    regs := if 8 < nbits then { s.regs.loadCommandWord (BitVec.ofNat 56 w) with command := s.regs.command } else s.regs }

end Sys2Proof.Machine
end

