-- ==== Sys2Proof/Safety.lean ====
section
/-! DEFINITION. What a good state is, in the terms that claims use: the invariants of 10_state R49, the facts of the other
rules that support them, and the states a run from power-on reaches. -/

namespace Sys2Proof.Machine

/-- Neither a fault nor a refusal is recorded: some agent may step (10_state R53, 41_register_access R200). -/
def State.live (s : State) : Prop := s.fault = none ∧ s.refused = none

/-- No command is in flight and soft reset is not asserted: the host may write the task file and the Command register
(41_register_access R215, R216). -/
def State.idle (s : State) : Prop := s.live ∧ s.srst = false ∧ s.cur = none

/-- The invariants I1 to I8 of 10_state R49, in the spec's order. -/
structure SpecInvariants (s : State) : Prop where
  /-- I1: the current LBA never exceeds the ending LBA. -/
  window : ∀ d, (s.dev d).dma.curLba.toNat ≤ (s.dev d).dma.endLba.toNat
  /-- I2: the cursor never exceeds the buffer's capacity. -/
  cursor : ∀ d, (s.dev d).pioCursor ≤ pioBufSize
  /-- I3, first half: an active transfer belongs to a DMA command. -/
  activeIsDma : (∃ d, (s.dev d).transferActive = true) → ∃ c, s.cur = some c ∧ c.proto = .dma
  /-- I3, second half: in a PIO phase no transfer is active. -/
  pioHasNoTransfer : ∀ c, s.cur = some c → (c.proto = .pioIn ∨ c.proto = .pioOut) →
    ∀ d, (s.dev d).transferActive = false
  /-- I4: a command is current exactly in its data phase. -/
  phase : ∀ c, s.cur = some c → c.phase = .dataPhase
  /-- I5: a current command is a DMA command in its data phase exactly when its device has an active transfer. -/
  dmaPhase : ∀ c, s.cur = some c → ((c.phase = .dataPhase ∧ c.proto = .dma) ↔ (s.dev c.d).transferActive = true)
  /-- I6: without an active transfer the window is the idle one. -/
  idleWindow : ∀ d, (s.dev d).transferActive = false → (s.dev d).dma = .idle
  /-- I7: BSY is clear unless soft reset is asserted. -/
  notBusy : s.srst = false → bsy s.regs.status = false
  /-- I8: while a command is current, Status is `ST_DRQ`. -/
  drqWhileCurrent : ∀ c, s.cur = some c → s.regs.status = stDrq

/-- The invariants of R49 with what the other rules add to them. -/
structure Inv (s : State) : Prop extends SpecInvariants s where
  /-- An active transfer is that of the current command's device (44_dma_engine R371, R372). -/
  activeOwner : ∀ d, (s.dev d).transferActive = true → ∃ c, s.cur = some c ∧ c.proto = .dma ∧ c.d = d
  /-- An active window still has a sector to move (44_dma_engine R372, R376). -/
  windowOpen : ∀ d, (s.dev d).transferActive = true → (s.dev d).dma.curLba.toNat < (s.dev d).dma.endLba.toNat
  /-- The current LBA never falls below the start (44_dma_engine R371, R376). -/
  windowStart : ∀ d, (s.dev d).dma.startLba.toNat ≤ (s.dev d).dma.curLba.toNat
  /-- An open PIO phase still has a byte to move (41_register_access R210, corner case 1). -/
  bufferOpen : ∀ c, s.cur = some c → (c.proto = .pioIn ∨ c.proto = .pioOut) → (s.dev c.d).pioCursor < pioBufSize
  /-- A current command moves data (42_command_engine R252). -/
  movesData : ∀ c, s.cur = some c → c.proto ≠ .nonData
  /-- While SRST is held no command is current and Status reads `ST_BUSY` (70_reset_and_hazards R604). -/
  resetHeld : s.srst = true → s.cur = none ∧ s.regs.status = stBusy
  /-- Status only ever holds one of the block's values (10_state R29). -/
  statusValues : s.regs.status = stOk ∨ s.regs.status = stErr ∨ s.regs.status = stDrq ∨ s.regs.status = stBusy
    ∨ s.regs.status = stSigNone
  /-- Error only ever holds 0x00, ABRT or the reset value (10_state R22). -/
  errorValues : s.regs.error = errNone ∨ s.regs.error = errAbrt ∨ s.regs.error = errReset
  /-- A stored geometry has heads 1 to 16 and spt 1 to 255 (10_state R41, 45_pio_and_addressing R431). -/
  geometries : ∀ d g, (s.dev d).geometry = some g → g.inRange = true
  /-- A PIO buffer is a block of 512 bytes (45_pio_and_addressing R420). -/
  buffers : ∀ d, Memory.isBlock (s.dev d).pioBuf = true
  /-- Every attached record obeys its contract (40_driver_capability R152, R157, R165, R166). -/
  contracts : ∀ d, (s.dev d).driver.conforms = true
  /-- No record is shared (40_driver_capability R169). -/
  exclusive : s.dev0.driver.id ≠ s.dev1.driver.id

/-! ### How claims describe a step -/

/-- The edge events of a step, from the interrupt line before it and after it (60_exceptions R515). -/
def edge (before after : Bool) : List Event :=
  match before, after with
  | false, true => [.irqRise]
  | true, false => [.irqFall]
  | _, _ => []

/-- The device that Device/Head bit 4 selects (30_encoding R116). -/
def State.selected (s : State) : Slot := if s.regs.devHead.getLsbD 4 then .slave else .master

/-- The line a pending interrupt drives: high unless nIEN, Device Control bit 1, masks it (60_exceptions R512). -/
def State.unmasked (s : State) : Bool := !s.regs.devCtl.getLsbD 1

/-- What a Command write of `v` on device `d` leaves when the command ends in the same step (42_command_engine R250, R257):
the byte latched, the final Error and Status, one interrupt, and the start, `notes` and the end in the trace. -/
def State.ended (s : State) (v : Byte) (d : Slot) (ok : Bool) (notes : List Event) : State :=
  { s with
    regs := { s.regs with
      command := v, error := if ok then 0x00 else 0x04, status := if ok then 0x50 else 0x51 }
    intPending := true
    reply := .none
    trace := s.trace ++ [.cmdStart v d] ++ notes ++ [.cmdEnd v d (if ok then .success else .error)]
      ++ edge s.irq s.unmasked }

/-- What a Command write of `v` on device `d` leaves when the command opens its data phase (42_command_engine R250, R255):
the byte latched, Error 0x00, Status 0x58, the command current, and the interrupt pending exactly when `int`. -/
def State.opened (s : State) (v : Byte) (proto : Proto) (d : Slot) (int : Bool) : State :=
  { s with
    regs := { s.regs with command := v, error := 0x00, status := 0x58 }
    intPending := int
    cur := some { opcode := v, proto := proto, phase := .dataPhase, d := d, feat := s.regs.features }
    reply := .none
    trace := s.trace ++ [.cmdStart v d] ++ edge s.irq (int && s.unmasked) }

/-- What a step leaves that ends the current command `c` with one interrupt (42_command_engine R257): the final Error and
Status, no current command, `notes` and the end in the trace, and the answer `r`. -/
def State.closed (s : State) (c : Command) (ok : Bool) (notes : List Event) (r : Reply) : State :=
  { s with
    regs := { s.regs with error := if ok then 0x00 else 0x04, status := if ok then 0x50 else 0x51 }
    intPending := true
    cur := none
    reply := r
    trace := s.trace ++ notes ++ [.cmdEnd c.opcode c.d (if ok then .success else .error)] ++ edge s.irq s.unmasked }

/-- A device with no armed window (10_state R46, 44_dma_engine R378). -/
def Device.unarmed (D : Device) : Device :=
  { D with dma := { startLba := 0, endLba := 0, curLba := 0, isWrite := false }, transferActive := false }

/-- Operations one after the other; none when one of them does not answer a next state. -/
def execAll : List Instr → State → Option State
  | [], s => some s
  | i :: rest, s =>
    match exec i s with
    | .next t => execAll rest t
    | _ => none

/-- The states that a run from power-on reaches: any configuration that is well formed, any operations presented by the
agents, any answers of the backend. -/
inductive Reached : State → Prop where
  | powerOn (cfg : Configuration) (h : cfg.wf = true) (inbox : List Request) (answers : List Bool) :
      Reached { State.powerOn cfg with inbox := inbox, answers := answers }
  | step (s t : State) (hs : Reached s) (h : step s = .next t) : Reached t

end Sys2Proof.Machine
end

