-- ==== Sys2Proof/Certificates/Slice0/Obligations.lean ====
section
/-! DEFINITION. The statements for the provers, one definition each.  A claimed next state is written out field by field, so
that what is not named in it is unchanged; `reply`, `draws`, `answers`, `backendCalls` and `inbox` are the model's own fields. -/

section
open Sys2Proof Sys2Proof.Machine

/-! ## Encoding -/

/-- Every operation's request decodes to that operation, with every operand at every value the encoding admits
(30_encoding R100 to R104). -/
def Obligations.DecodeUndoesEncode : Prop :=
  ∀ i : Instr, i.wellFormed = true → decode (encode i) = .ok i

/-- What a request decodes to is well formed, and its encoding has the request's format and every bit of its code
(30_encoding R100 to R104, R124). -/
def Obligations.DecodingKeepsEveryCodeBit : Prop :=
  ∀ (q : Request) (i : Instr), decode q = .ok i →
    i.wellFormed = true ∧ (encode i).format = q.format ∧ (encode i).code = q.code

/-- Each of the 256 command bytes is a command, and it does what a write of the Command register with that byte does
(30_encoding R102, R120 to R122; 42_command_engine R250). -/
def Obligations.EveryCommandByteIsACommandWrite : Prop :=
  ∀ (v : Byte) (o : Operands), ∃ i : Instr,
    decode { format := .cmd, code := v, operands := o } = .ok i ∧ ∀ s : State, exec i s = exec (.wrCommand v) s

/-- Words of each format, written out from 30_encoding R100 and R102 to R104, decode to the operations they stand for.  In the
fourth word R100 reserves width code 3, and the width that stands beside the code there is the model's (DESIGN CHOICE, log 15). -/
def Obligations.SampleWordsDecode : Prop :=
  decode { format := .port, code := 0b01010000, operands := { Operands.zero with value := 0x1234 } } = .ok (.wrDataW 0x1234)
    ∧ decode { format := .port, code := 0b00000111, operands := .zero } = .ok .rdStatus
    ∧ decode { format := .port, code := 0b11000110, operands := { Operands.zero with value := 0x02 } } = .ok (.wrDevCtl 0x02)
    ∧ decode { format := .port, code := 0b00110000, operands := { Operands.zero with width := 3 } }
        = .ok (.refusedWidth 0 0 0 0 3)
    ∧ decode { format := .cmd, code := 0xC8, operands := .zero } = .ok .readDma
    ∧ decode { format := .dmaif, code := 0b01, operands := { Operands.zero with d := .slave, buf := [1, 2] } }
        = .ok (.dmaWriteSector .slave [1, 2])
    ∧ decode { format := .env, code := 0b0, operands := { Operands.zero with present := true, capacity := 9 } }
        = .ok (.mediumChange .master true 9 [])

/-- The fields of the command operand word, as numbers of the task file (30_encoding R110 to R112, R114, R116). -/
def Obligations.CommandOperandFields : Prop :=
  ∀ r : Regs,
    r.commandWord.lba28.toNat
        = r.devHead.toNat % 16 * 2 ^ 24 + r.cylHigh.toNat * 2 ^ 16 + r.cylLow.toNat * 2 ^ 8 + r.sectorNumber.toNat
    ∧ r.commandWord.cyl.toNat = r.cylHigh.toNat * 2 ^ 8 + r.cylLow.toNat
    ∧ r.commandWord.hs.toNat = r.devHead.toNat % 16
    ∧ r.commandWord.sn = r.sectorNumber
    ∧ r.commandWord.count = (if r.sectorCount.toNat = 0 then 256 else r.sectorCount.toNat)
    ∧ r.commandWord.spt = r.sectorCount.toNat
    ∧ r.commandWord.heads = r.devHead.toNat % 16 + 1
    ∧ r.commandWord.lbaMode = r.devHead.getLsbD 6
    ∧ r.commandWord.dev = (if r.devHead.getLsbD 4 then .slave else .master)

/-- What each transfer-mode value of SET FEATURES decodes to (30_encoding R115). -/
def Obligations.TransferModeValues : Prop :=
  ∀ m : BitVec 3,
    decodeMode ((0b00000 : BitVec 5) ++ m) = (if m.toNat < 2 then .pio 0 else .invalid)
    ∧ decodeMode ((0b00001 : BitVec 5) ++ m) = .pio m
    ∧ decodeMode ((0b00010 : BitVec 5) ++ m) = .dma .sw m
    ∧ decodeMode ((0b00100 : BitVec 5) ++ m) = .dma .mw m
    ∧ decodeMode ((0b01000 : BitVec 5) ++ m) = .dma .udma m
    ∧ ∀ k : BitVec 5, k ≠ 0b00000 → k ≠ 0b00001 → k ≠ 0b00010 → k ≠ 0b00100 → k ≠ 0b01000 →
        decodeMode (k ++ m) = .invalid

/-! ## The machine -/

/-- A step takes the oldest request, decodes it and runs it as one atomic operation; the request leaves the inbox and nothing
else is added (00_scope R13, 41_register_access R200).  Three clauses are the model's own: that the requests wait in an inbox
and the oldest goes first, and that with none waiting the state stays (DESIGN CHOICE, log 2: the spec names no order of the
agents); and that a request which is no operation is refused by its reason (DEDUCED, log 14; DESIGN CHOICE, log 15, log 16). -/
def Obligations.StepRunsTheDecodedOperation : Prop :=
  (∀ (s : State) (q : Request) (rest : List Request), s.live → s.inbox = q :: rest →
    (∀ i, decode q = .ok i → step s = exec i { s with inbox := rest })
    ∧ (∀ e, decode q = .error e → step s = .refused (.undecodable e)))
  ∧ ∀ s : State, s.live → s.inbox = [] → step s = .next s

/-- No operation and no step leaves a state where a fault or a refusal is recorded, and neither is recorded at power-on of a
well-formed configuration (10_state R53). -/
def Obligations.QuiescentStatesHaveNoStep : Prop :=
  (∀ s : State, s.fault ≠ none ∨ s.refused ≠ none →
    (∀ t, step s ≠ .next t) ∧ ∀ (i : Instr) (t : State), exec i s ≠ .next t)
  ∧ ∀ cfg : Configuration, cfg.wf = true → (State.powerOn cfg).fault = none ∧ (State.powerOn cfg).refused = none

/-- In a state without a fault or refusal every operation completes, but for an environment operation that the spec gives no
step there (40_driver_capability R170, R172; 41_register_access R200; 44_dma_engine R380). -/
def Obligations.LiveStatesCompleteEveryOperation : Prop :=
  ∀ (i : Instr) (s : State), s.live →
    (∃ t, exec i s = .next t)
    ∨ (∃ d present capacity img, i = .mediumChange d present capacity img ∧ (s.dev d).driver.kind ≠ .dvd
        ∧ exec i s = .refused .operationNotEnabled)
    ∨ (∃ d drv, i = .attach d drv ∧ (s.cur ≠ none ∨ drv.id = (s.dev d.other).driver.id)
        ∧ exec i s = .refused .operationNotEnabled)

/-- Every step keeps the invariant: the eight of 10_state R49, the register values of R22 and R29, the buffer, geometry and
window bounds, the driver contract and its exclusive use. -/
def Obligations.EveryStepKeepsTheInvariant : Prop :=
  ∀ s t : State, Inv s → step s = .next t → Inv t

/-- The invariant holds at power-on of every well-formed configuration, whatever the agents and the backend will do, and at
the model's own reset state (log 9). -/
def Obligations.PowerOnMeetsTheInvariant : Prop :=
  (∀ (cfg : Configuration) (inbox : List Request) (answers : List Bool), cfg.wf = true →
    Inv { State.powerOn cfg with inbox := inbox, answers := answers }) ∧ Inv State.reset

/-- The invariants I1 to I8 of 10_state R49 hold in every state that a run from power-on reaches. -/
def Obligations.ReachedStatesMeetTheSpecInvariants : Prop :=
  ∀ s : State, Reached s → SpecInvariants s

/-- Only a Command write makes a command current, in its data phase, on the selected device, with the Features byte; only its
own data port, its own bus-master operations and a soft reset end it, and no operation changes it (42_command_engine R250,
R252, R253). -/
def Obligations.OnlyTheseOperationsStartOrEndACommand : Prop :=
  ∀ (i : Instr) (s t : State), exec i s = .next t →
    (∀ c, s.cur = none → t.cur = some c →
      c.phase = .dataPhase ∧ c.proto ≠ .nonData ∧ c.d = s.selected ∧ c.feat = s.regs.features
      ∧ (i = .wrCommand c.opcode ∨ ((encode i).format = .cmd ∧ (encode i).code = c.opcode)))
    ∧ ∀ c, s.cur = some c → t.cur = some c ∨ (t.cur = none ∧
      ((c.proto = .pioIn ∧ (i = .rdDataB ∨ i = .rdDataW ∨ i = .rdDataD))
      ∨ (c.proto = .pioOut ∧ ((∃ v, i = .wrDataB v) ∨ (∃ v, i = .wrDataW v) ∨ (∃ v, i = .wrDataD v)))
      ∨ (c.proto = .dma ∧ (i = .dmaReadSector c.d ∨ (∃ buf, i = .dmaWriteSector c.d buf) ∨ i = .dmaAbort c.d))
      ∨ (∃ v, i = .wrDevCtl v ∧ s.regs.devCtl.getLsbD 2 = false ∧ v.getLsbD 2 = true)))

/-- The trace only grows, and no operation reads it: with another trace before it, every operation answers the same state and
appends the same events (10_state R54). -/
def Obligations.TraceGrowsAndIsNeverRead : Prop :=
  ∀ (i : Instr) (s t : State) (before : List Event), exec i s = .next t →
    (∃ events, t.trace = s.trace ++ events)
    ∧ exec i { s with trace := before } = .next { t with trace := before ++ t.trace.drop s.trace.length }

/-- The line is the pending interrupt unless nIEN masks it, and every operation ends with the one edge event that the line's
values before and after it call for (10_state R35, 60_exceptions R515). -/
def Obligations.InterruptEdgeEvents : Prop :=
  ∀ (i : Instr) (s t : State), exec i s = .next t →
    let before : Bool := s.intPending && !s.regs.devCtl.getLsbD 1
    let after : Bool := t.intPending && !t.regs.devCtl.getLsbD 1
    ∃ events, (∀ e ∈ events, e ≠ .irqRise ∧ e ≠ .irqFall) ∧
      t.trace = s.trace ++ events ++
        (if before = false ∧ after = true then [.irqRise] else if before = true ∧ after = false then [.irqFall] else [])

/-- A pending interrupt goes away only by a Status read, a Command write or a soft reset; each of the three clears it (a Command
write before the new command runs), and an Alternate Status read does not (60_exceptions R513). -/
def Obligations.InterruptAcknowledgement : Prop :=
  ∀ s : State, s.live → s.intPending = true →
    (∀ (i : Instr) (t : State), exec i s = .next t → t.intPending = false →
      i = .rdStatus ∨ (encode i).format = .cmd ∨ (∃ v, i = .wrCommand v)
      ∨ (∃ v, i = .wrDevCtl v ∧ s.regs.devCtl.getLsbD 2 = false ∧ v.getLsbD 2 = true))
    ∧ (∃ t, exec .rdStatus s = .next t ∧ t.intPending = false)
    ∧ (s.regs.devCtl.getLsbD 2 = false → ∀ v : Byte, v.getLsbD 2 = true →
        ∃ t, exec (.wrDevCtl v) s = .next t ∧ t.intPending = false)
    ∧ (s.regs.devCtl.getLsbD 2 = false → s.cur = none →
        (∃ t, exec (.wrCommand 0xF2) s = .next t ∧ t.intPending = false)
        ∧ ∀ v, ∃ t u, exec (.wrCommand v) s = .next t ∧ exec (.wrCommand v) { s with intPending := false } = .next u
            ∧ { t with trace := [] } = { u with trace := [] })
    ∧ ∃ t, exec .rdAltStatus s = .next t ∧ t.intPending = true

/-- A task-file register changes only by the write of that very register and by the release of soft reset, Command only by a
Command write, Device Control only by its own write: no command and no transfer touches them (10_state R23 to R31,
60_exceptions R502). -/
def Obligations.OnlyTheseOperationsWriteTheTaskFile : Prop :=
  ∀ (i : Instr) (s t : State), exec i s = .next t →
    let release : Prop := ∃ v, i = .wrDevCtl v ∧ s.regs.devCtl.getLsbD 2 = true ∧ v.getLsbD 2 = false
    (t.regs.features = s.regs.features ∨ i = .wrFeatures t.regs.features ∨ release)
    ∧ (t.regs.sectorCount = s.regs.sectorCount ∨ i = .wrSectorCount t.regs.sectorCount ∨ release)
    ∧ (t.regs.sectorNumber = s.regs.sectorNumber ∨ i = .wrSectorNumber t.regs.sectorNumber ∨ release)
    ∧ (t.regs.cylLow = s.regs.cylLow ∨ i = .wrCylLow t.regs.cylLow ∨ release)
    ∧ (t.regs.cylHigh = s.regs.cylHigh ∨ i = .wrCylHigh t.regs.cylHigh ∨ release)
    ∧ (t.regs.devHead = s.regs.devHead ∨ i = .wrDeviceHead t.regs.devHead ∨ release)
    ∧ (t.regs.command = s.regs.command ∨ i = .wrCommand t.regs.command
        ∨ ((encode i).format = .cmd ∧ (encode i).code = t.regs.command))
    ∧ (t.regs.devCtl = s.regs.devCtl ∨ i = .wrDevCtl t.regs.devCtl)

/-- A transfer mode changes only by SET FEATURES on that device, a geometry only by INITIALIZE DEVICE PARAMETERS on it, and both
by the release of soft reset and by ATTACH (10_state R43, R48; 45_pio_and_addressing R434; 40_driver_capability R172).  The
last clause, that no operation, ATTACH included, changes a slot's supported mode sets, is the model's reading of 00_scope R7
(DEDUCED, log 22). -/
def Obligations.OnlyTheseOperationsChangeModesAndGeometry : Prop :=
  ∀ (i : Instr) (s t : State) (d : Slot), exec i s = .next t →
    let settled : Prop := (∃ v, i = .wrDevCtl v ∧ s.regs.devCtl.getLsbD 2 = true ∧ v.getLsbD 2 = false)
      ∨ ∃ drv, i = .attach d drv
    (((t.dev d).pioMode = (s.dev d).pioMode ∧ (t.dev d).dmaMode = (s.dev d).dmaMode) ∨ settled
      ∨ ((i = .setFeatures ∨ i = .wrCommand 0xEF) ∧ s.regs.features = 0x03 ∧ d = s.selected
          ∧ ((t.dev d).pioMode = (s.dev d).pioMode ∨ (t.dev d).dmaMode = (s.dev d).dmaMode)))
    ∧ ((t.dev d).geometry = (s.dev d).geometry ∨ settled
      ∨ ((i = .initializeDeviceParameters ∨ i = .wrCommand 0x91) ∧ d = s.selected))
    ∧ (t.dev d).modes = (s.dev d).modes

/-- A byte of a medium changes only by a sector write to its device, inside that sector, by a medium change and by ATTACH; the
medium's presence and capacity only by the last two; the record only by ATTACH.  No reset changes any of them (10_state R42,
40_driver_capability R157, 70_reset_and_hazards R603). -/
def Obligations.OnlyTheseOperationsChangeAMedium : Prop :=
  ∀ (i : Instr) (s t : State) (d : Slot), exec i s = .next t →
    let medium := (s.dev d).driver.medium
    let medium' := (t.dev d).driver.medium
    (∀ a, medium'.img.read a = medium.img.read a
      ∨ (∃ buf, i = .dmaWriteSector d buf
          ∧ (s.dev d).dma.curLba.toNat * (s.dev d).driver.sectorSize ≤ a
          ∧ a < ((s.dev d).dma.curLba.toNat + 1) * (s.dev d).driver.sectorSize)
      ∨ (∃ present capacity img, i = .mediumChange d present capacity img) ∨ ∃ drv, i = .attach d drv)
    ∧ ((medium'.present = medium.present ∧ medium'.capacity = medium.capacity)
      ∨ (∃ present capacity img, i = .mediumChange d present capacity img) ∨ ∃ drv, i = .attach d drv)
    ∧ ({ (t.dev d).driver with medium := medium } = (s.dev d).driver ∨ ∃ drv, i = .attach d drv)

/-- A device that neither runs the current command nor is selected for a new one keeps every field, its medium's bytes among
them, through every operation of the host and the bus master, but for a soft reset (60_exceptions R538). -/
def Obligations.TheOtherDeviceIsUntouched : Prop :=
  ∀ (i : Instr) (s t : State) (d : Slot), exec i s = .next t →
    (∀ c, s.cur = some c → c.d ≠ d) → (s.cur = none → s.selected ≠ d) →
    (∀ v, i ≠ .wrDevCtl v) → (encode i).format ≠ .env → t.dev d = s.dev d

/-- Each fault has its own causes and no other, and a step that faults changes nothing else (60_exceptions R530, R532). -/
def Obligations.FaultCauses : Prop :=
  ∀ (i : Instr) (s t : State) (r : FaultReason), exec i s = .next t → t.fault = some r →
    let taskWrite : Prop := (∃ v, i = .wrFeatures v) ∨ (∃ v, i = .wrSectorCount v) ∨ (∃ v, i = .wrSectorNumber v)
      ∨ (∃ v, i = .wrCylLow v) ∨ (∃ v, i = .wrCylHigh v) ∨ ∃ v, i = .wrDeviceHead v
    let commandWrite : Prop := (encode i).format = .cmd ∨ ∃ v, i = .wrCommand v
    t = { s with fault := some r, reply := .none } ∧
    match r with
    | .hostWriteDuringReset => s.regs.devCtl.getLsbD 2 = true ∧ (taskWrite ∨ commandWrite)
    | .commandWhileInFlight => s.cur ≠ none ∧ commandWrite
    | .taskFileWriteInDataPhase => s.cur ≠ none ∧ taskWrite
    | .dmaNoActiveWindow => ∃ d, (i = .dmaReadSector d ∨ ∃ buf, i = .dmaWriteSector d buf)
        ∧ ¬∃ c, s.cur = some c ∧ c.proto = .dma ∧ c.d = d ∧ (s.dev d).transferActive = true
    | .dmaDirectionMismatch => ∃ d, (i = .dmaReadSector d ∧ (s.dev d).dma.isWrite = true)
        ∨ ∃ buf, i = .dmaWriteSector d buf ∧ (s.dev d).dma.isWrite = false
    | .dmaBadSectorBuffer => ∃ d buf, i = .dmaWriteSector d buf ∧ buf.length ≠ (s.dev d).driver.sectorSize

/-- Each refusal has its own causes and no other.  Among the well-formed operations, an access is refused only for a width other
than 1, 2 and 4, for a wider access to a register other than Data, for a control offset other than 6 (41_register_access R219),
or, as the opcode table's last PORT row has it, for bit 3 of its code; and a command byte only if it is outside 30_encoding R120
and not 0xA0, while `UNSUPPORTED_ABORTS` is false (42_command_engine R262; 60_exceptions R531, R533).  An ill-formed
configuration is refused at construction alone (40_driver_capability R169); that a record which breaks the driver contract makes
a configuration ill-formed too is the model's (DESIGN CHOICE, log 16), as is the width read beside width code 3 (log 15). -/
def Obligations.RefusalCauses : Prop :=
  (∀ (i : Instr) (s t : State) (r : RefuseReason), exec i s = .next t → t.refused = some r →
    match r with
    | .badRegisterAccess blk off dir n =>
        (∃ zero w, i = .refusedWidth blk dir zero off w ∧ n = w.toNat
          ∧ (i.wellFormed = true → n ≠ 1 ∧ n ≠ 2 ∧ n ≠ 4))
        ∨ ∃ p, i = .refusedAccess p ∧ p.blk = blk ∧ p.off = off ∧ p.dir = dir ∧ p.widthBytes = n
          ∧ (i.wellFormed = true → (n ≠ 1 ∧ ¬(blk = 0 ∧ off = 0)) ∨ (blk = 1 ∧ off ≠ 6) ∨ p.zero = 1)
    | .packetCommand => i = .packet ∨ i = .wrCommand 0xA0
    | .unsupportedCommand v => s.unsupportedAborts = false
        ∧ (i = .wrCommand v ∨ ((encode i).format = .cmd ∧ (encode i).code = v))
        ∧ (i.wellFormed = true → v ∉ ([0xEC, 0xA1, 0x91, 0xEF, 0xF2, 0xC8, 0xCA, 0xA0] : List Byte))
    | .illFormedConfiguration => False)
  ∧ ∀ cfg : Configuration, (State.powerOn cfg).refused = (if cfg.wf then none else some .illFormedConfiguration)

/-! ## Reset -/

/-- Power-on: the signature of device 0 in the task file, both devices at their defaults with their configured drivers, no
command, no interrupt, and `ResetDone` in the trace (70_reset_and_hazards R600, R605; 10_state R22 to R55 but for the buffer
bytes, which R44 leaves unspecified).  That the trace holds `ResetDone` follows R600, not R55's "empty" (log 11). -/
def Obligations.PowerOnValues : Prop :=
  ∀ cfg : Configuration, cfg.wf = true →
    let s := State.powerOn cfg
    let fresh (D : Device) (drv : Driver) (modes : ModeSets) : Prop :=
      D.driver = drv ∧ D.pioMode = 0 ∧ D.dmaMode = none ∧ D.pioCursor = 512 ∧ D.transferActive = false
      ∧ D.dma = { startLba := 0, endLba := 0, curLba := 0, isWrite := false } ∧ D.geometry = drv.defaultGeometry
      ∧ D.modes = modes
    s.regs = { error := 0x01, features := 0x00, sectorCount := 0x01, sectorNumber := 0x01
               cylLow := if cfg.master.supportsPacket then 0x14 else 0x00
               cylHigh := if cfg.master.supportsPacket then 0xEB else 0x00
               devHead := 0x00
               status := if cfg.master.kind = .hdd ∧ cfg.master.supportsPacket = false then 0x50 else 0x00
               command := 0x00, devCtl := 0x00 }
    ∧ s.intPending = false ∧ s.cur = none ∧ s.fault = none ∧ s.refused = none ∧ s.trace = [.resetDone]
    ∧ fresh s.dev0 cfg.master cfg.masterModes ∧ fresh s.dev1 cfg.slave cfg.slaveModes

/-- SRST going from 0 to 1 abandons the command without an interrupt, ends both windows, empties both buffers, clears the
pending interrupt and sets Status to 0x80 (70_reset_and_hazards R601). -/
def Obligations.SoftResetAssertion : Prop :=
  ∀ (s : State) (v : Byte), s.live → s.regs.devCtl.getLsbD 2 = false → v.getLsbD 2 = true →
    exec (.wrDevCtl v) s = .next
      { s with
        regs := { s.regs with devCtl := v, status := 0x80 }
        cur := none
        dev0 := { s.dev0.unarmed with pioCursor := 512 }
        dev1 := { s.dev1.unarmed with pioCursor := 512 }
        intPending := false
        reply := .none
        trace := s.trace ++ (match s.cur with | some c => [.cmdAbort c.opcode c.d] | none => []) ++ edge s.irq false }

/-- SRST going from 1 to 0 puts modes and geometry to their defaults and loads device 0's signature; Command and Device Control
keep their bytes, and no interrupt is asserted (70_reset_and_hazards R602). -/
def Obligations.SoftResetRelease : Prop :=
  ∀ (s : State) (v : Byte), s.live → s.regs.devCtl.getLsbD 2 = true → v.getLsbD 2 = false →
    exec (.wrDevCtl v) s = .next
      { s with
        regs := { error := 0x01, features := 0x00, sectorCount := 0x01, sectorNumber := 0x01
                  cylLow := if s.dev0.driver.supportsPacket then 0x14 else 0x00
                  cylHigh := if s.dev0.driver.supportsPacket then 0xEB else 0x00
                  devHead := 0x00
                  status := if s.dev0.driver.kind = .hdd ∧ s.dev0.driver.supportsPacket = false then 0x50 else 0x00
                  command := s.regs.command, devCtl := v }
        dev0 := { s.dev0 with pioMode := 0, dmaMode := none, geometry := s.dev0.driver.defaultGeometry }
        dev1 := { s.dev1 with pioMode := 0, dmaMode := none, geometry := s.dev1.driver.defaultGeometry }
        reply := .none
        trace := s.trace ++ [.resetDone] ++ edge s.irq (s.intPending && !v.getLsbD 1) }

/-- While SRST is held: reads return the stored fields and Status 0x80; every write of offsets 1 to 7 faults; the data port gives
diagnostics; bus-master sectors fault; environment operations go on (70_reset_and_hazards R604). -/
def Obligations.WhileSoftResetIsHeld : Prop :=
  ∀ s : State, s.live → Inv s → s.regs.devCtl.getLsbD 2 = true →
    (∀ p ∈ ([(.rdError, s.regs.error), (.rdSectorCount, s.regs.sectorCount), (.rdSectorNumber, s.regs.sectorNumber),
        (.rdCylLow, s.regs.cylLow), (.rdCylHigh, s.regs.cylHigh), (.rdDeviceHead, s.regs.devHead), (.rdAltStatus, 0x80)]
        : List (Instr × Byte)),
      exec p.1 s = .next { s with reply := .value .one (p.2.setWidth 32) })
    ∧ (∃ t, exec .rdStatus s = .next t ∧ t.reply = .value .one 0x80 ∧ t.regs = s.regs)
    ∧ (∀ (i : Instr) (v : Byte),
        i ∈ [.wrFeatures v, .wrSectorCount v, .wrSectorNumber v, .wrCylLow v, .wrCylHigh v, .wrDeviceHead v, .wrCommand v]
          ∨ (encode i).format = .cmd →
        exec i s = .next { s with fault := some .hostWriteDuringReset, reply := .none })
    ∧ (∀ p ∈ ([(.rdDataB, 1), (.rdDataW, 2), (.rdDataD, 4)] : List (Instr × Nat)), ∃ r m,
        exec p.1 s = .next { s with reply := r, draws := s.draws + p.2, trace := s.trace ++ [.diag m] })
    ∧ (∀ (b : Byte) (w : BitVec 16) (l : BitVec 32), ∀ i ∈ ([.wrDataB b, .wrDataW w, .wrDataD l] : List Instr), ∃ m,
        exec i s = .next { s with reply := .none, trace := s.trace ++ [.diag m] })
    ∧ (∀ (d : Slot) (buf : List Byte), ∀ i ∈ ([.dmaReadSector d, .dmaWriteSector d buf] : List Instr),
        exec i s = .next { s with fault := some .dmaNoActiveWindow, reply := .none })
    ∧ (∀ d present capacity img, (s.dev d).driver.kind = .dvd → ∃ t, exec (.mediumChange d present capacity img) s = .next t)
    ∧ (∀ d drv, drv.id ≠ (s.dev d.other).driver.id → ∃ t, exec (.attach d drv) s = .next t)

/-! ## Register access -/

/-- Offsets 1 to 6 read back their registers in every state, Error at offset 1; nothing else changes (41_register_access
R213). -/
def Obligations.TaskFileReads : Prop :=
  ∀ (s : State) (o : Operands), s.live →
    ∀ p ∈ ([(0x01, .rdError, s.regs.error), (0x02, .rdSectorCount, s.regs.sectorCount),
        (0x03, .rdSectorNumber, s.regs.sectorNumber), (0x04, .rdCylLow, s.regs.cylLow),
        (0x05, .rdCylHigh, s.regs.cylHigh), (0x06, .rdDeviceHead, s.regs.devHead)]
        : List (Byte × Instr × Byte)),
      decode { format := .port, code := p.1, operands := o } = .ok p.2.1
      ∧ exec p.2.1 s = .next { s with reply := .value .one (p.2.2.setWidth 32) }

/-- A Status read returns Status and clears the pending interrupt; the line falls if it was high; in soft reset it returns 0x80
(41_register_access R214). -/
def Obligations.StatusRead : Prop :=
  ∀ (s : State) (o : Operands), s.live →
    decode { format := .port, code := 0x07, operands := o } = .ok .rdStatus
    ∧ exec .rdStatus s = .next
        { s with
          reply := .value .one (s.regs.status.setWidth 32), intPending := false, trace := s.trace ++ edge s.irq false }
    ∧ (Inv s → s.regs.devCtl.getLsbD 2 = true → ∃ t, exec .rdStatus s = .next t ∧ t.reply = .value .one 0x80)

/-- An Alternate Status read returns Status and changes nothing (41_register_access R218). -/
def Obligations.AlternateStatusRead : Prop :=
  ∀ (s : State) (o : Operands), s.live →
    decode { format := .port, code := 0x86, operands := o } = .ok .rdAltStatus
    ∧ exec .rdAltStatus s = .next { s with reply := .value .one (s.regs.status.setWidth 32) }

/-- A write of offsets 1 to 6: a fault in soft reset, else a fault with a command in flight, else the byte goes into that very
register and nothing else changes (41_register_access R216). -/
def Obligations.TaskFileWrites : Prop :=
  ∀ (s : State) (o : Operands) (v : Byte), s.live →
    ∀ p ∈ ([(0x41, .wrFeatures v, { s.regs with features := v }),
        (0x42, .wrSectorCount v, { s.regs with sectorCount := v }),
        (0x43, .wrSectorNumber v, { s.regs with sectorNumber := v }),
        (0x44, .wrCylLow v, { s.regs with cylLow := v }),
        (0x45, .wrCylHigh v, { s.regs with cylHigh := v }),
        (0x46, .wrDeviceHead v, { s.regs with devHead := v })]
        : List (Byte × Instr × Regs)),
      decode { format := .port, code := p.1, operands := { o with value := v.setWidth 32 } } = .ok p.2.1
      ∧ exec p.2.1 s = .next
          (if s.regs.devCtl.getLsbD 2 then { s with fault := some .hostWriteDuringReset, reply := .none }
           else if s.cur.isSome then { s with fault := some .taskFileWriteInDataPhase, reply := .none }
           else { s with regs := p.2.2, reply := .none })

/-- A Command write, of any byte and by any row of the table, faults in soft reset, and else faults with a command in flight;
nothing else changes (41_register_access R215). -/
def Obligations.CommandWriteFaults : Prop :=
  ∀ (i : Instr) (s : State), s.live → (encode i).format = .cmd ∨ (∃ v, i = .wrCommand v) →
    (s.regs.devCtl.getLsbD 2 = true → exec i s = .next { s with fault := some .hostWriteDuringReset, reply := .none })
    ∧ (s.regs.devCtl.getLsbD 2 = false → s.cur ≠ none →
        exec i s = .next { s with fault := some .commandWhileInFlight, reply := .none })

/-- From an idle state a Command write of every byte completes: the byte is latched, the task file, Device Control and both
drivers stay, and the command it runs is the one that the byte's row of the table names (41_register_access R215,
42_command_engine R250, R251).  PACKET, and a byte outside 30_encoding R120 unless `UNSUPPORTED_ABORTS`, complete in their
recorded refusal, with Status and Error as they were, and no other byte is refused (R262, 43_ata_commands R340); that the byte is
latched before the refusal is DEDUCED (log 12). -/
def Obligations.CommandWriteCompletes : Prop :=
  ∀ (s : State) (v : Byte), s.idle →
    ∃ t, exec (.wrCommand v) s = .next t ∧ exec (decodeCommand v) s = .next t
      ∧ t.regs = { s.regs with command := v, status := t.regs.status, error := t.regs.error }
      ∧ t.fault = none
      ∧ t.refused =
          (if v = 0xA0 then some .packetCommand
           else if v ∉ ([0xEC, 0xA1, 0x91, 0xEF, 0xF2, 0xC8, 0xCA] : List Byte) ∧ s.unsupportedAborts = false then
            some (.unsupportedCommand v)
           else none)
      ∧ (t.refused = none ∨ (t.regs.status = s.regs.status ∧ t.regs.error = s.regs.error))
      ∧ (∀ d, (t.dev d).driver = (s.dev d).driver) ∧ t.dev s.selected.other = s.dev s.selected.other

/-- A Data read of 1, 2 or 4 bytes in a PIO data-in phase: byte j is buffer byte cursor + j, bytes past the end are free, the
cursor rises by what was moved, and the last byte ends the command with Status 0x50 and no interrupt (41_register_access R210,
42_command_engine R256, 20_memory R71). -/
def Obligations.DataReadInItsPhase : Prop :=
  ∀ (s : State) (c : Command), s.live → s.cur = some c → c.proto = .pioIn →
    ∀ p ∈ ([(.rdDataB, .one, 1), (.rdDataW, .two, 2), (.rdDataD, .four, 4)] : List (Instr × Width × Nat)),
      let D := s.dev c.d
      let n := p.2.2
      let k := min n (512 - D.pioCursor)
      ∃ r : BitVec 32, r.toNat < 2 ^ (8 * n) ∧ (∀ j, j < k → r.extractLsb' (8 * j) 8 = D.pioBuf.read (D.pioCursor + j))
        ∧ exec p.1 s = .next
            (if D.pioCursor + k = 512 then
              { (s.setDev c.d { D with pioCursor := 512 }) with
                regs := { s.regs with status := 0x50 }, cur := none, reply := .value p.2.1 r, draws := s.draws + (n - k)
                trace := s.trace ++ [.cmdEnd c.opcode c.d .success] }
             else
              { (s.setDev c.d { D with pioCursor := D.pioCursor + k }) with
                reply := .value p.2.1 r, draws := s.draws + (n - k) })

/-- A Data access outside its own data phase appends one diagnostic and changes no register, no buffer and no command; a read
returns a value that nothing constrains but its width (41_register_access R211). -/
def Obligations.DataPortOutsideItsPhase : Prop :=
  ∀ s : State, s.live →
    ((∀ c, s.cur = some c → c.proto ≠ .pioIn) →
      ∀ p ∈ ([(.rdDataB, .one, 1), (.rdDataW, .two, 2), (.rdDataD, .four, 4)] : List (Instr × Width × Nat)),
        ∃ (r : BitVec 32) (m : Diagnostic), r.toNat < 2 ^ (8 * p.2.2)
          ∧ exec p.1 s = .next
              { s with reply := .value p.2.1 r, draws := s.draws + p.2.2, trace := s.trace ++ [.diag m] })
    ∧ ((∀ c, s.cur = some c → c.proto ≠ .pioOut) →
      ∀ (b : Byte) (w : BitVec 16) (l : BitVec 32), ∀ i ∈ ([.wrDataB b, .wrDataW w, .wrDataD l] : List Instr),
        ∃ m : Diagnostic, exec i s = .next { s with reply := .none, trace := s.trace ++ [.diag m] })

/-- A Data write of 1, 2 or 4 bytes in a PIO data-out phase: bits 8j+7 to 8j go to buffer byte cursor + j, bytes past the end are
discarded, and the byte that fills the buffer ends the command by the driver's unlock answer on the whole buffer, with one
interrupt (41_register_access R212; 42_command_engine R257, R258; 43_ata_commands R325; 20_memory R71). -/
def Obligations.DataWriteInItsPhase : Prop :=
  ∀ (s : State) (c : Command), s.live → s.cur = some c → c.proto = .pioOut → Memory.wf (s.dev c.d).pioBuf = true →
    ∀ (b : Byte) (w : BitVec 16) (l : BitVec 32),
    ∀ p ∈ ([(.wrDataB b, 1, b.setWidth 32), (.wrDataW w, 2, w.setWidth 32), (.wrDataD l, 4, l)]
        : List (Instr × Nat × BitVec 32)),
      let D := s.dev c.d
      let k := min p.2.1 (512 - D.pioCursor)
      ∃ buf : Block, Memory.wf buf = true
        ∧ (∀ a, buf.read a =
            if D.pioCursor ≤ a ∧ a < D.pioCursor + k then p.2.2.extractLsb' (8 * (a - D.pioCursor)) 8 else D.pioBuf.read a)
        ∧ exec p.1 s = .next
            (if D.pioCursor + k = 512 then
              (s.setDev c.d { D with pioBuf := buf, pioCursor := 512 }).closed c (D.driver.securityUnlockOk buf) [] .none
             else { (s.setDev c.d { D with pioBuf := buf, pioCursor := D.pioCursor + k }) with reply := .none })

/-- One 4-byte Data read moves the same bytes in the same order as two 2-byte reads, and leaves the same state (20_memory R71,
R73). -/
def Obligations.DataPortWidthsAgree : Prop :=
  ∀ (s : State) (c : Command), s.live → s.cur = some c → c.proto = .pioIn → (s.dev c.d).pioCursor + 4 ≤ 512 →
    ∃ (r lo hi : BitVec 32) (t u w : State),
      exec .rdDataD s = .next t ∧ t.reply = .value .four r
      ∧ exec .rdDataW s = .next u ∧ u.reply = .value .two lo
      ∧ exec .rdDataW u = .next w ∧ w.reply = .value .two hi
      ∧ r.toNat = lo.toNat + 2 ^ 16 * hi.toNat ∧ { w with reply := t.reply } = t

/-- A block is read by any mix of widths: while fewer than 512 bytes have moved the command stays open and Status and the
interrupt stay; the access that reaches or passes the 512th byte ends it in success, with no interrupt of its own; and no
operation but a Data read ends it or moves its cursor, except the assertion of soft reset, which abandons it
(45_pio_and_addressing R421, R425; 70_reset_and_hazards R601, R621, R622; 42_command_engine R256). -/
def Obligations.ABlockEndsAtItsLastByte : Prop :=
  ∀ (s : State) (c : Command), s.live → s.cur = some c → c.proto = .pioIn →
    let D := s.dev c.d
    let widths : List (Instr × Nat) := [(.rdDataB, 1), (.rdDataW, 2), (.rdDataD, 4)]
    let moved (accesses : List (Instr × Nat)) : Nat := (accesses.map Prod.snd).sum
    (∀ accesses : List (Instr × Nat), (∀ p ∈ accesses, p ∈ widths) → D.pioCursor + moved accesses < 512 →
      ∃ t, execAll (accesses.map Prod.fst) s = some t ∧ t.cur = some c ∧ t.regs = s.regs
        ∧ t.intPending = s.intPending ∧ t.trace = s.trace
        ∧ t.dev c.d = { D with pioCursor := D.pioCursor + moved accesses })
    ∧ (∀ (accesses : List (Instr × Nat)) (last : Instr × Nat), (∀ p ∈ accesses, p ∈ widths) → last ∈ widths →
      D.pioCursor + moved accesses < 512 → 512 ≤ D.pioCursor + moved accesses + last.2 →
      ∃ t, execAll (accesses.map Prod.fst ++ [last.1]) s = some t ∧ t.cur = none
        ∧ t.regs = { s.regs with status := 0x50 } ∧ t.intPending = s.intPending
        ∧ t.trace = s.trace ++ [.cmdEnd c.opcode c.d .success] ∧ t.dev c.d = { D with pioCursor := 512 })
    ∧ ∀ (i : Instr) (t : State), exec i s = .next t → (∀ p ∈ widths, i ≠ p.1) →
      (t.cur = some c ∧ (t.dev c.d).pioCursor = D.pioCursor ∧ (t.dev c.d).pioBuf = D.pioBuf)
      ∨ ((∃ v, i = .wrDevCtl v ∧ s.regs.devCtl.getLsbD 2 = false ∧ v.getLsbD 2 = true)
          ∧ t.cur = none ∧ t.intPending = false ∧ .cmdAbort c.opcode c.d ∈ t.trace)

/-- A Device Control write that leaves SRST as it is stores the byte in every phase and changes nothing else; nIEN hides and
shows a pending interrupt without clearing it (41_register_access R217, 60_exceptions R512). -/
def Obligations.DeviceControlWriteWithoutReset : Prop :=
  ∀ (s : State) (v : Byte), s.live → s.regs.devCtl.getLsbD 2 = v.getLsbD 2 →
    exec (.wrDevCtl v) s = .next
      { s with
        regs := { s.regs with devCtl := v }, reply := .none
        trace := s.trace ++ edge s.irq (s.intPending && !v.getLsbD 1) }

/-- An access of a width other than 1, 2 and 4, a wider access to any register but Data, and any access to a control offset other
than 6 is refused in every phase, with its fields in the reason, and changes nothing else (41_register_access R219).  Two clauses
go beyond R219: a code with bit 3 set is refused too, as 30_encoding R100 fixes that bit at 0 and the opcode table's last PORT
row names it; and the width of an access of width code 3 stands beside the code (DESIGN CHOICE, log 15). -/
def Obligations.RefusedAccesses : Prop :=
  ∀ (s : State) (o : Operands) (p : PortCode), s.live →
    let n := if p.nCode = 3 then o.width.toNat else p.widthBytes
    (p.nCode = 3 → n ≠ 1 ∧ n ≠ 2 ∧ n ≠ 4) →
    (p.nCode = 3 ∨ (n ≠ 1 ∧ ¬(p.blk = 0 ∧ p.off = 0)) ∨ (p.blk = 1 ∧ p.off ≠ 6) ∨ p.zero = 1) →
    ∃ i, decode { format := .port, code := p.pack, operands := o } = .ok i
      ∧ (i = .refusedWidth p.blk p.dir p.zero p.off o.width ∨ i = .refusedAccess p)
      ∧ exec i s = .next { s with refused := some (.badRegisterAccess p.blk p.off p.dir n), reply := .none }

/-! ## Commands -/

/-- IDENTIFY DEVICE and IDENTIFY PACKET DEVICE: the driver gives the record for the device as it stands, modes, geometry and
medium among its fields but no byte of the buffer; without a record they fail; a record fills the buffer from byte 0 and opens a
data-in phase with one interrupt (43_ata_commands R300, R305; 40_driver_capability R151, R152, R156; 10_state R44). -/
def Obligations.IdentifyCommands : Prop :=
  ∀ s : State, s.idle →
    let d := s.selected
    let D := s.dev d
    let key : IdentifyKey :=
      { pioMode := D.pioMode, dmaMode := D.dmaMode, pioCursor := D.pioCursor, dma := D.dma
        transferActive := D.transferActive, geometry := D.geometry, modes := D.modes, medium := D.driver.medium }
    ∀ p ∈ ([(.identifyDevice, 0xEC, D.driver.identifyRecord key),
        (.identifyPacketDevice, 0xA1, D.driver.identifyPacketRecord key)] : List (Instr × Byte × Option Block)),
      exec p.1 s = .next
        (match p.2.2 with
         | none => s.ended p.2.1 d false []
         | some record => (s.setDev d { D with pioBuf := record, pioCursor := 0 }).opened p.2.1 .pioIn d true)

/-- INITIALIZE DEVICE PARAMETERS: zero sectors per track, or a geometry the driver rejects, fails and leaves the geometry; else
the geometry is heads = hs + 1 and spt = Sector Count (43_ata_commands R315). -/
def Obligations.InitializeDeviceParametersResult : Prop :=
  ∀ s : State, s.idle →
    let d := s.selected
    let D := s.dev d
    let heads := s.regs.devHead.toNat % 16 + 1
    let spt := s.regs.sectorCount.toNat
    exec .initializeDeviceParameters s = .next
      (if spt ≠ 0 ∧ D.driver.setParamsOk heads spt = true then
        (s.setDev d { D with geometry := some { heads := heads, spt := spt } }).ended 0x91 d true []
       else s.ended 0x91 d false [])

/-- SET FEATURES: subcode 0x03 with a mode in the device's set selects that mode and leaves the other kind's; every other
subcode and mode fails with a diagnostic and changes no mode (43_ata_commands R320).  On a Null driver every mode fails, mode 0
too (40_driver_capability R166, against R320's corner case 3: DESIGN CHOICE, log 24).  Which name each diagnostic has is the
model's (DESIGN CHOICE, log 19). -/
def Obligations.SetFeaturesResult : Prop :=
  ∀ s : State, s.idle →
    let d := s.selected
    let D := s.dev d
    let fails (m : Diagnostic) := s.ended 0xEF d false [.diag m]
    exec .setFeatures s = .next
      (if s.regs.features ≠ 0x03 then fails .unsupportedSubcode
       else if D.driver.kind = .null then fails .modeOutOfRange
       else match decodeMode s.regs.sectorCount with
        | .pio m =>
          if m = 0 ∨ D.modes.pio.getLsbD m.toNat = true then (s.setDev d { D with pioMode := m }).ended 0xEF d true []
          else fails .modeOutOfRange
        | .dma k m =>
          if (match k with | .sw => D.modes.swdma | .mw => D.modes.mwdma | .udma => D.modes.udma).getLsbD m.toNat = true then
            (s.setDev d { D with dmaMode := some (k, m) }).ended 0xEF d true []
          else fails .modeOutOfRange
        | .invalid => fails .modeOutOfRange)

/-- SECURITY UNLOCK opens a data-out phase on every driver, with the cursor at 0, the buffer bytes as they are, and no interrupt
(43_ata_commands R325). -/
def Obligations.SecurityUnlockEntry : Prop :=
  ∀ s : State, s.idle →
    exec .securityUnlock s = .next
      ((s.setDev s.selected { s.dev s.selected with pioCursor := 0 }).opened 0xF2 .pioOut s.selected false)

/-- READ DMA and WRITE DMA: with a medium, a start that the address names, and a range inside the capacity and the accessible
LBAs, the window is armed and the data phase opens without an interrupt; else the command fails and writes nothing else
(44_dma_engine R371, R372; 43_ata_commands R330, R335; 45_pio_and_addressing R430, R432). -/
def Obligations.DmaCommands : Prop :=
  ∀ s : State, s.idle →
    let d := s.selected
    let D := s.dev d
    let head := s.regs.devHead.toNat % 16
    let cyl := s.regs.cylHigh.toNat * 2 ^ 8 + s.regs.cylLow.toNat
    let sec := s.regs.sectorNumber.toNat
    let count := if s.regs.sectorCount.toNat = 0 then 256 else s.regs.sectorCount.toNat
    let names (start : Nat) : Prop :=
      if s.regs.devHead.getLsbD 6 then
        start = head * 2 ^ 24 + s.regs.cylHigh.toNat * 2 ^ 16 + s.regs.cylLow.toNat * 2 ^ 8 + s.regs.sectorNumber.toNat
      else ∃ g, D.geometry = some g ∧ head < g.heads ∧ 1 ≤ sec ∧ sec ≤ g.spt
        ∧ start = (cyl * g.heads + head) * g.spt + (sec - 1)
    let fits (start : Nat) : Prop := D.driver.medium.present = true ∧ names start
      ∧ start + count ≤ D.driver.medium.capacity.toNat
      ∧ ∀ a, start ≤ a → a < start + count → D.driver.userAccessible a = true
    ∀ p ∈ ([(.readDma, 0xC8, false), (.writeDma, 0xCA, true)] : List (Instr × Byte × Bool)),
      (∀ start, fits start →
        exec p.1 s = .next
          ((s.setDev d { D with
              dma := { startLba := BitVec.ofNat 32 start, endLba := BitVec.ofNat 32 (start + count)
                       curLba := BitVec.ofNat 32 start, isWrite := p.2.2 }
              transferActive := true }).opened p.2.1 .dma d false))
      ∧ ((¬∃ start, fits start) → exec p.1 s = .next (s.ended p.2.1 d false []))

/-- The window never overflows 32 bits: a start in LBA mode is at most 2^28 - 1, in CHS mode at most 267386879, and the end at most
2^28 + 255, so an armed window's fields are exactly start and start + count (44_dma_engine R373, 00_scope R18). -/
def Obligations.TheDmaWindowFitsItsWidth : Prop :=
  ∀ (D : Device) (w : CommandWord) (start : Nat), (∀ g, D.geometry = some g → g.inRange = true) →
    w.startLba D.geometry = some start →
    (w.lbaMode = true → start ≤ 2 ^ 28 - 1) ∧ (w.lbaMode = false → start ≤ 267386879)
    ∧ start + w.count ≤ 2 ^ 28 + 255
    ∧ ∀ isWrite win, D.armedWindow w isWrite = some win →
        win.startLba.toNat = start ∧ win.curLba.toNat = start ∧ win.endLba.toNat = start + w.count
        ∧ win.curLba.toNat < win.endLba.toNat ∧ win.isWrite = isWrite

/-- PACKET is refused on every driver: the byte is latched and the pending interrupt cleared before the refusal, in the order of
the rules' text (43_ata_commands R340, 41_register_access R215; that order is DEDUCED, log 12). -/
def Obligations.PacketIsRefused : Prop :=
  ∀ s : State, s.idle →
    exec .packet s = .next
      { s with
        regs := { s.regs with command := 0xA0 }, intPending := false, refused := some .packetCommand, reply := .none
        trace := s.trace ++ edge s.irq false }

/-- Each unsupported command byte: with `UNSUPPORTED_ABORTS` a failed non-data command with a diagnostic; without it a refusal,
after the byte is latched and the pending interrupt cleared (42_command_engine R262, 30_encoding R122; the order before the
refusal is DEDUCED, log 12; the diagnostic's name is a DESIGN CHOICE, log 19). -/
def Obligations.UnsupportedCommands : Prop :=
  ∀ (s : State) (other : Byte), s.idle →
    let rows1 : List (Instr × Byte) :=
      [(.nop, 0x00), (.deviceReset, 0x08), (.readSectors, 0x20), (.readSectorsWithoutRetry, 0x21), (.writeSectors, 0x30),
       (.writeSectorsWithoutRetry, 0x31), (.readVerifySectors, 0x40), (.readVerifySectorsWithoutRetry, 0x41), (.seek, 0x70),
       (.executeDeviceDiagnostic, 0x90), (.downloadMicrocode, 0x92), (.service, 0xA2), (.smart, 0xB0)]
    let rows2 : List (Instr × Byte) :=
      [(.readMultiple, 0xC4), (.writeMultiple, 0xC5), (.setMultipleMode, 0xC6), (.readDmaQueued, 0xC7),
       (.readDmaWithoutRetry, 0xC9), (.writeDmaWithoutRetry, 0xCB), (.writeDmaQueued, 0xCC), (.mediaLock, 0xDE),
       (.mediaUnlock, 0xDF), (.standbyImmediate, 0xE0), (.idleImmediate, 0xE1), (.standby, 0xE2), (.idle, 0xE3)]
    let rows3 : List (Instr × Byte) :=
      [(.readBuffer, 0xE4), (.checkPowerMode, 0xE5), (.sleep, 0xE6), (.flushCache, 0xE7), (.writeBuffer, 0xE8),
       (.mediaEject, 0xED), (.securitySetPassword, 0xF1), (.securityErasePrepare, 0xF3), (.securityEraseUnit, 0xF4),
       (.securityFreezeLock, 0xF5), (.securityDisablePassword, 0xF6), (.readNativeMaxAddress, 0xF8), (.setMaxAddress, 0xF9),
       (.unsupportedOther other, other)]
    ∀ p ∈ rows1 ++ rows2 ++ rows3,
      exec p.1 s = .next
        (if s.unsupportedAborts then s.ended p.2 s.selected false [.diag .unsupportedCommand]
         else
          { s with
            regs := { s.regs with command := p.2 }, intPending := false, refused := some (.unsupportedCommand p.2)
            reply := .none, trace := s.trace ++ edge s.irq false })

/-! ## Bus master -/

/-- DMA_READ_SECTOR on an armed read window: the sector's bytes in order and the current LBA one further; the last sector ends the
command with Status 0x50; a failed check or a failing backend ends it with 0x51 and ABRT and delivers nothing (44_dma_engine R374,
R376, R381; 40_driver_capability R158; 42_command_engine R259; 20_memory R72). -/
def Obligations.DmaSectorRead : Prop :=
  ∀ (s : State) (c : Command) (d : Slot), s.live → s.cur = some c → c.proto = .dma → c.d = d →
    (s.dev d).transferActive = true → (s.dev d).dma.isWrite = false →
    (s.dev d).dma.curLba.toNat < (s.dev d).dma.endLba.toNat →
    let D := s.dev d
    let n := D.driver.sectorSize
    let lba := D.dma.curLba.toNat
    let asked := { s with answers := s.answers.tail, backendCalls := s.backendCalls + 1 }
    (¬(D.driver.medium.present = true ∧ lba * n + n ≤ D.driver.medium.capacity.toNat * n) →
      exec (.dmaReadSector d) s
        = .next ((s.setDev d D.unarmed).closed c false [.backendRead d (lba * n) n .fail] .failed))
    ∧ (D.driver.medium.present = true → lba * n + n ≤ D.driver.medium.capacity.toNat * n →
      (s.backendAnswer = false →
        exec (.dmaReadSector d) s
          = .next ((asked.setDev d D.unarmed).closed c false [.backendRead d (lba * n) n .fail] .failed))
      ∧ (s.backendAnswer = true → ∃ bytes : List Byte, bytes.length = n
          ∧ (∀ j, j < n → bytes[j]? = some (D.driver.medium.img.read (lba * n + j)))
          ∧ exec (.dmaReadSector d) s = .next
              (if lba + 1 = D.dma.endLba.toNat then
                (asked.setDev d D.unarmed).closed c true [.backendRead d (lba * n) n .ok] (.sector bytes)
               else
                { (asked.setDev d { D with dma := { D.dma with curLba := BitVec.ofNat 32 (lba + 1) } }) with
                  reply := .sector bytes, trace := s.trace ++ [.backendRead d (lba * n) n .ok] })))

/-- DMA_WRITE_SECTOR on an armed write window: a buffer of another length faults; a success stores the buffer at the sector's
bytes and no other, and the current LBA rises by one; the last sector ends the command with Status 0x50; a failed check ends it
with 0x51 and writes nothing; a failing backend ends it too and leaves that sector's bytes, and no other, unconstrained
(44_dma_engine R375, R376, R382; 40_driver_capability R159; 20_memory R72, R76). -/
def Obligations.DmaSectorWrite : Prop :=
  ∀ (s : State) (c : Command) (d : Slot) (buf : List Byte), s.live → s.cur = some c → c.proto = .dma → c.d = d →
    (s.dev d).transferActive = true → (s.dev d).dma.isWrite = true →
    (s.dev d).dma.curLba.toNat < (s.dev d).dma.endLba.toNat → Memory.wf (s.dev d).driver.medium.img = true →
    let D := s.dev d
    let drv := D.driver
    let n := drv.sectorSize
    let lba := D.dma.curLba.toNat
    let asked := { s with answers := s.answers.tail, backendCalls := s.backendCalls + 1 }
    let allowed : Prop := drv.writable = true ∧ drv.medium.present = true ∧ lba * n + n ≤ drv.medium.capacity.toNat * n
    (buf.length ≠ n →
      exec (.dmaWriteSector d buf) s = .next { s with fault := some .dmaBadSectorBuffer, reply := .none })
    ∧ (buf.length = n → ¬allowed →
      exec (.dmaWriteSector d buf) s
        = .next ((s.setDev d D.unarmed).closed c false [.backendWrite d (lba * n) n .fail] .failed))
    ∧ (buf.length = n → allowed → ∃ img : Memory, Memory.wf img = true
      ∧ (∀ a, a < lba * n ∨ lba * n + n ≤ a → img.read a = drv.medium.img.read a)
      ∧ (s.backendAnswer = false →
          exec (.dmaWriteSector d buf) s = .next
            ((({ asked with draws := s.draws + n }).setDev d
                ({ D with driver := { drv with medium := { drv.medium with img := img } } } : Device).unarmed).closed
              c false [.backendWrite d (lba * n) n .fail] .failed))
      ∧ (s.backendAnswer = true →
          (∀ j, j < n → buf[j]? = some (img.read (lba * n + j)))
          ∧ exec (.dmaWriteSector d buf) s = .next
              (if lba + 1 = D.dma.endLba.toNat then
                (asked.setDev d
                    ({ D with driver := { drv with medium := { drv.medium with img := img } } } : Device).unarmed).closed
                  c true [.backendWrite d (lba * n) n .ok] .done
               else
                { (asked.setDev d
                    { D with
                      driver := { drv with medium := { drv.medium with img := img } }
                      dma := { D.dma with curLba := BitVec.ofNat 32 (lba + 1) } }) with
                  reply := .done, trace := s.trace ++ [.backendWrite d (lba * n) n .ok] })))

/-- A sector operation faults without an armed window of the current DMA command on that device, and else faults against the
window's direction; nothing else changes (44_dma_engine R384). -/
def Obligations.DmaSectorFaults : Prop :=
  ∀ (s : State) (d : Slot) (buf : List Byte), s.live →
    let armed : Prop := ∃ c, s.cur = some c ∧ c.proto = .dma ∧ c.d = d ∧ (s.dev d).transferActive = true
    (¬armed →
      exec (.dmaReadSector d) s = .next { s with fault := some .dmaNoActiveWindow, reply := .none }
      ∧ exec (.dmaWriteSector d buf) s = .next { s with fault := some .dmaNoActiveWindow, reply := .none })
    ∧ (armed → (s.dev d).dma.isWrite = true →
      exec (.dmaReadSector d) s = .next { s with fault := some .dmaDirectionMismatch, reply := .none })
    ∧ (armed → (s.dev d).dma.isWrite = false →
      exec (.dmaWriteSector d buf) s = .next { s with fault := some .dmaDirectionMismatch, reply := .none })

/-- DMA_ABORT ends this device's DMA command as a failure with one interrupt and resets its window; anywhere else it is a
diagnostic and nothing more (44_dma_engine R383; which name each diagnostic has is a DESIGN CHOICE, log 19). -/
def Obligations.DmaAbortResult : Prop :=
  ∀ (s : State) (d : Slot) (o : Operands), s.live →
    decode { format := .dmaif, code := 2, operands := { o with d := d } } = .ok (.dmaAbort d)
    ∧ (∀ c, s.cur = some c → c.proto = .dma → c.d = d →
      exec (.dmaAbort d) s = .next ((s.setDev d (s.dev d).unarmed).closed c false [.diag .dmaAborted] .none))
    ∧ ((¬∃ c, s.cur = some c ∧ c.proto = .dma ∧ c.d = d) →
      exec (.dmaAbort d) s = .next { s with reply := .none, trace := s.trace ++ [.diag .dmaAbortNoWindow] })

/-- DMA_QUERY returns the transfer-active flag, the direction and whether the current LBA has reached the end, and changes nothing
(44_dma_engine R377, R385). -/
def Obligations.DmaQueryResult : Prop :=
  ∀ (s : State) (d : Slot) (o : Operands), s.live →
    decode { format := .dmaif, code := 3, operands := { o with d := d } } = .ok (.dmaQuery d)
    ∧ exec (.dmaQuery d) s = .next
        { s with
          reply := .query (s.dev d).transferActive (s.dev d).dma.isWrite
            (decide ((s.dev d).dma.curLba.toNat = (s.dev d).dma.endLba.toNat)) }

/-- An undisturbed read transfer of N sectors takes exactly N sector reads: before the last the command stays open, its registers
and interrupt as they were and the window not finished; the N-th ends it in success with one interrupt, and the trace holds the N
backend reads in rising order (44_dma_engine R376, R386, R387). -/
def Obligations.AReadTransferTakesExactlyItsSectors : Prop :=
  ∀ (s : State) (c : Command) (d : Slot) (more : List Bool), s.live → s.cur = some c → c.proto = .dma → c.d = d →
    let D := s.dev d
    let n := D.driver.sectorSize
    let lba := D.dma.curLba.toNat
    let left := D.dma.endLba.toNat - lba
    D.transferActive = true → D.dma.isWrite = false → 0 < left → D.driver.medium.present = true →
    D.dma.endLba.toNat ≤ D.driver.medium.capacity.toNat → s.answers = List.replicate left true ++ more →
    (∀ k, k < left → ∃ t, execAll (List.replicate k (.dmaReadSector d)) s = some t
      ∧ t.cur = some c ∧ t.regs = s.regs ∧ t.intPending = s.intPending
      ∧ t.dev d = { D with dma := { D.dma with curLba := BitVec.ofNat 32 (lba + k) } } ∧ (t.dev d).isDmaFinished = false
      ∧ t.trace = s.trace ++ (List.range k).map fun j => .backendRead d ((lba + j) * n) n .ok)
    ∧ ∃ t, execAll (List.replicate left (.dmaReadSector d)) s = some t
      ∧ t.cur = none ∧ t.regs = { s.regs with status := 0x50, error := 0x00 } ∧ t.intPending = true
      ∧ t.dev d = D.unarmed ∧ (t.dev d).isDmaFinished = true ∧ t.answers = more
      ∧ t.trace = s.trace ++ ((List.range left).map fun j => .backendRead d ((lba + j) * n) n .ok)
          ++ [.cmdEnd c.opcode d .success] ++ edge s.irq s.unmasked

/-- An undisturbed write transfer of N sectors puts buffer k at sector start + k, byte by byte, leaves every other byte of the
medium, and ends in success with one interrupt at the N-th write (44_dma_engine R376, R382, R386; 20_memory R72, R84). -/
def Obligations.AWriteTransferStoresItsSectors : Prop :=
  ∀ (s : State) (c : Command) (d : Slot) (more : List Bool) (bufs : List (List Byte)),
    s.live → s.cur = some c → c.proto = .dma → c.d = d →
    let D := s.dev d
    let n := D.driver.sectorSize
    let lba := D.dma.curLba.toNat
    D.transferActive = true → D.dma.isWrite = true → bufs ≠ [] → lba + bufs.length = D.dma.endLba.toNat →
    D.driver.writable = true → D.driver.medium.present = true → D.dma.endLba.toNat ≤ D.driver.medium.capacity.toNat →
    Memory.wf D.driver.medium.img = true → (∀ buf ∈ bufs, buf.length = n) →
    s.answers = List.replicate bufs.length true ++ more →
    ∃ t, execAll (bufs.map (.dmaWriteSector d)) s = some t
      ∧ t.cur = none ∧ t.regs = { s.regs with status := 0x50, error := 0x00 } ∧ t.intPending = true
      ∧ (t.dev d).transferActive = false ∧ t.dev d.other = s.dev d.other ∧ t.answers = more
      ∧ (∀ a, a < lba * n ∨ (lba + bufs.length) * n ≤ a →
          (t.dev d).driver.medium.img.read a = D.driver.medium.img.read a)
      ∧ ∀ k buf j, bufs[k]? = some buf → j < n →
          buf[j]? = some ((t.dev d).driver.medium.img.read ((lba + k) * n + j))

/-- A sector read that succeeds after a sector write that succeeded at the same LBA, with the driver as the write left it, returns
the bytes written (20_memory R84, R87). -/
def Obligations.AWrittenSectorReadsBack : Prop :=
  ∀ (s t u v : State) (d : Slot) (buf bytes : List Byte),
    Memory.wf (s.dev d).driver.medium.img = true →
    exec (.dmaWriteSector d buf) s = .next t → t.reply = .done → (u.dev d).driver = (t.dev d).driver →
    (u.dev d).dma.curLba = (s.dev d).dma.curLba → exec (.dmaReadSector d) u = .next v → v.reply = .sector bytes →
    bytes = buf

/-! ## Environment -/

/-- MEDIUM_CHANGE on a DVD replaces presence, capacity (0 without a disc) and image in every phase, and changes no register, no
command and no interrupt; on another driver the environment has no such step, which the model refuses under a name of its own
(40_driver_capability R170, R157; the refusal's name is a DESIGN CHOICE, log 13). -/
def Obligations.MediumChangeResult : Prop :=
  ∀ (s : State) (d : Slot) (present : Bool) (capacity : Lba) (img : Memory), s.live →
    let D := s.dev d
    (D.driver.kind = .dvd →
      exec (.mediumChange d present capacity img) s = .next
        { (s.setDev d
            { D with
              driver := { D.driver with
                medium := { present := present, capacity := if present then capacity else 0, img := img } } }) with
          reply := .none })
    ∧ (D.driver.kind ≠ .dvd → exec (.mediumChange d present capacity img) s = .refused .operationNotEnabled)

/-- ATTACH with no command in flight and a record that the other slot does not reference puts the record in the slot, its modes,
cursor, window and geometry at their defaults, and writes no register; else the glue has no such step, which the model refuses
under a name of its own (40_driver_capability R172, R169; the refusal's name is a DESIGN CHOICE, log 13). -/
def Obligations.AttachResult : Prop :=
  ∀ (s : State) (d : Slot) (drv : Driver), s.live →
    (s.cur = none → drv.id ≠ (s.dev d.other).driver.id →
      exec (.attach d drv) s = .next
        { (s.setDev d
            { (s.dev d).unarmed with
              driver := drv, pioMode := 0, dmaMode := none, pioCursor := 512, geometry := drv.defaultGeometry }) with
          reply := .none })
    ∧ (s.cur ≠ none ∨ drv.id = (s.dev d.other).driver.id → exec (.attach d drv) s = .refused .operationNotEnabled)

/-! ## Addressing and the PIO buffer -/

/-- A CHS address inside the geometry goes to an LBA and back to itself (45_pio_and_addressing R433). -/
def Obligations.ChsRoundTrip : Prop :=
  ∀ (g : Geometry) (cyl head sec : Nat), 1 ≤ g.heads → 1 ≤ g.spt → head < g.heads → 1 ≤ sec → sec ≤ g.spt →
    lbaToChs g (chsToLba g cyl head sec) = (cyl, head, sec)

/-- An LBA goes to a CHS address inside the geometry and back to itself, and the source's worked example comes out
(45_pio_and_addressing R430 to R432, R435). -/
def Obligations.LbaRoundTrip : Prop :=
  (∀ (g : Geometry) (lba : Nat), 1 ≤ g.heads → 1 ≤ g.spt →
    let p := lbaToChs g lba
    chsValid g p.2.1 p.2.2 = true ∧ chsToLba g p.1 p.2.1 p.2.2 = lba)
  ∧ chsToLba { heads := 16, spt := 63 } 10 5 20 = 10414 ∧ lbaToChs { heads := 16, spt := 63 } 10414 = (10, 5, 20)

/-- A buffer access moves min(length, remaining) bytes at the cursor, in order, and leaves the cursor inside the buffer; a write
changes no other byte (45_pio_and_addressing R421 to R424). -/
def Obligations.BufferAccessesStayInside : Prop :=
  ∀ (D : Device) (v : BitVec 32) (length : Nat), D.pioCursor ≤ 512 → Memory.wf D.pioBuf = true →
    let k := min length (512 - D.pioCursor)
    (D.readBuffer length).length = k ∧ k ≤ D.remaining
    ∧ (∀ j, j < k → (D.readBuffer length)[j]? = some (D.pioBuf.read (D.pioCursor + j)))
    ∧ D.afterRead length = { D with pioCursor := D.pioCursor + k } ∧ (D.afterRead length).pioCursor ≤ 512
    ∧ (D.writeBuffer v length).pioCursor = D.pioCursor + k ∧ (D.writeBuffer v length).pioCursor ≤ 512
    ∧ (∀ j, j < k → (D.writeBuffer v length).pioBuf.read (D.pioCursor + j) = v.extractLsb' (8 * j) 8)
    ∧ (∀ a, a < D.pioCursor ∨ D.pioCursor + k ≤ a → (D.writeBuffer v length).pioBuf.read a = D.pioBuf.read a)
    ∧ (D.writeBuffer v length).remaining = D.remaining - k

end
end

