-- ==== Sys2Proof/Laws/Memory.lean ====
section
/-! SUPPORT. Laws of byte stores: reading what was written, and the canonical form that every write keeps. -/

namespace Sys2Proof

theorem Memory.wfFrom_cons {lo k : Nat} {v : Byte} {m : Memory} :
    Memory.wfFrom lo ((k, v) :: m) = true ↔
      v ≠ Memory.unlisted ∧ lo ≤ k ∧ Memory.wfFrom (k + 1) m = true := by
  simp [Memory.wfFrom, and_assoc]

theorem Memory.wfFrom_mono {lo lo' : Nat} {m : Memory} (hle : lo' ≤ lo) (h : Memory.wfFrom lo m = true) :
    Memory.wfFrom lo' m = true := by
  cases m with
  | nil => rfl
  | cons c rest =>
    obtain ⟨k, v⟩ := c
    rw [Memory.wfFrom_cons] at h ⊢
    exact ⟨h.1, hle.trans h.2.1, h.2.2⟩

/-- An address below every cell is unlisted. -/
theorem Memory.read_below {lo a : Nat} {m : Memory} (h : Memory.wfFrom lo m = true) (ha : a < lo) :
    Memory.read m a = Memory.unlisted := by
  induction m generalizing lo with
  | nil => rfl
  | cons c rest ih =>
    obtain ⟨k, v⟩ := c
    obtain ⟨-, hlo, hrest⟩ := Memory.wfFrom_cons.mp h
    have hne : k ≠ a := by omega
    simp only [Memory.read, if_neg hne]
    exact ih hrest (by omega)

theorem Memory.wfFrom_write {lo a : Nat} {v : Byte} {m : Memory} (h : Memory.wfFrom lo m = true) (ha : lo ≤ a) :
    Memory.wfFrom lo (Memory.write m a v) = true := by
  induction m generalizing lo with
  | nil =>
    by_cases hv : v = Memory.unlisted <;> simp [Memory.write, Memory.wfFrom, hv, ha]
  | cons c rest ih =>
    obtain ⟨k, w⟩ := c
    obtain ⟨hw, hlo, hrest⟩ := Memory.wfFrom_cons.mp h
    simp only [Memory.write]
    split
    · split
      · exact h
      · exact Memory.wfFrom_cons.mpr ⟨‹_›, ha, Memory.wfFrom_cons.mpr ⟨hw, by omega, hrest⟩⟩
    · split
      · split
        · exact Memory.wfFrom_mono (by omega) hrest
        · exact Memory.wfFrom_cons.mpr ⟨‹_›, ha, by subst_vars; exact hrest⟩
      · exact Memory.wfFrom_cons.mpr ⟨hw, hlo, ih hrest (by omega)⟩

/-- A write keeps the canonical form. -/
theorem Memory.wf_write {m : Memory} (a : Nat) (v : Byte) (h : Memory.wf m = true) :
    Memory.wf (Memory.write m a v) = true :=
  Memory.wfFrom_write h (Nat.zero_le a)

/-- Storing a run of bytes keeps the canonical form. -/
theorem Memory.wf_writeBytes {m : Memory} (a : Nat) (bs : List Byte) (h : Memory.wf m = true) :
    Memory.wf (Memory.writeBytes m a bs) = true := by
  induction bs generalizing m a with
  | nil => exact h
  | cons b bs ih => exact ih (a + 1) (Memory.wf_write a b h)

/-- Reading the written address gives the written byte, in a canonical store. -/
theorem Memory.read_write_same {lo a : Nat} {v : Byte} {m : Memory} (h : Memory.wfFrom lo m = true) :
    Memory.read (Memory.write m a v) a = v := by
  induction m generalizing lo with
  | nil => by_cases hv : v = Memory.unlisted <;> simp [Memory.write, Memory.read, hv]
  | cons c rest ih =>
    obtain ⟨k, w⟩ := c
    obtain ⟨-, -, hrest⟩ := Memory.wfFrom_cons.mp h
    simp only [Memory.write]
    split
    · split
      · have hne : k ≠ a := by omega
        simp only [Memory.read, if_neg hne]
        rw [Memory.read_below hrest (by omega)]
        exact Eq.symm ‹_›
      · simp [Memory.read]
    · split
      · split
        · rw [Memory.read_below hrest (by omega)]
          exact Eq.symm ‹_›
        · simp [Memory.read]
      · have hne : k ≠ a := by omega
        simp only [Memory.read, if_neg hne]
        exact ih hrest

/-- A write leaves every other address alone. -/
theorem Memory.read_write_other {a b : Nat} {v : Byte} {m : Memory} (hne : b ≠ a) :
    Memory.read (Memory.write m a v) b = Memory.read m b := by
  induction m with
  | nil => by_cases hv : v = Memory.unlisted <;> simp [Memory.write, Memory.read, hv, hne.symm]
  | cons c rest ih =>
    obtain ⟨k, w⟩ := c
    simp only [Memory.write]
    split
    · split
      · rfl
      · simp [Memory.read, hne.symm]
    · split
      · have hk : k ≠ b := by omega
        split <;> simp [Memory.read, hne.symm, hk]
      · simp only [Memory.read, ih]

/-- A run of bytes leaves every address outside it alone. -/
theorem Memory.read_writeBytes_other {m : Memory} {a b : Nat} {bs : List Byte} (h : b < a ∨ a + bs.length ≤ b) :
    Memory.read (Memory.writeBytes m a bs) b = Memory.read m b := by
  induction bs generalizing m a with
  | nil => rfl
  | cons v vs ih =>
    simp only [List.length_cons] at h
    simp only [Memory.writeBytes]
    rw [ih (by omega), Memory.read_write_other (by omega)]

/-- Byte `i` of a run lies at the run's address plus `i`. -/
theorem Memory.read_writeBytes {m : Memory} {a i : Nat} {bs : List Byte} (hwf : Memory.wf m = true)
    (hi : i < bs.length) : Memory.read (Memory.writeBytes m a bs) (a + i) = bs[i] := by
  induction bs generalizing m a i with
  | nil => exact absurd hi (Nat.not_lt_zero i)
  | cons v vs ih =>
    simp only [Memory.writeBytes]
    cases i with
    | zero =>
      rw [Memory.read_writeBytes_other (by omega)]
      exact Memory.read_write_same hwf
    | succ j =>
      have hj : j < vs.length := by simpa using hi
      have := ih (a := a + 1) (Memory.wf_write a v hwf) hj
      simpa [Nat.add_assoc, Nat.add_comm 1 j] using this

@[simp] theorem Memory.length_readBytes (m : Memory) (a n : Nat) : (Memory.readBytes m a n).length = n := by
  simp [Memory.readBytes]

theorem Memory.getElem_readBytes (m : Memory) (a n i : Nat) (h : i < (Memory.readBytes m a n).length) :
    (Memory.readBytes m a n)[i] = Memory.read m (a + i) := by
  simp [Memory.readBytes]

/-- Reading back a run of bytes that was stored gives those bytes. -/
theorem Memory.readBytes_writeBytes {m : Memory} {a : Nat} {bs : List Byte} (hwf : Memory.wf m = true) :
    Memory.readBytes (Memory.writeBytes m a bs) a bs.length = bs := by
  apply List.ext_getElem
  · simp
  · intro i h₁ h₂
    rw [Memory.getElem_readBytes, Memory.read_writeBytes hwf h₂]

theorem Memory.wf_of_isBlock {m : Memory} (h : Memory.isBlock m = true) : Memory.wf m = true := by
  simp only [Memory.isBlock, Bool.and_eq_true] at h
  exact h.1

/-- The cells after a write are old cells or the written one. -/
theorem Memory.mem_write {m : Memory} {a : Nat} {v : Byte} {c : Host.Cell} (h : c ∈ Memory.write m a v) :
    c ∈ m ∨ c = (a, v) := by
  induction m with
  | nil => by_cases hv : v = Memory.unlisted <;> simp_all [Memory.write]
  | cons d rest ih =>
    obtain ⟨k, w⟩ := d
    simp only [Memory.write] at h
    split at h
    · split at h
      · exact .inl h
      · rcases List.mem_cons.mp h with h | h
        · exact .inr h
        · exact .inl h
    · split at h
      · split at h
        · exact .inl (List.mem_cons_of_mem _ h)
        · rcases List.mem_cons.mp h with h | h
          · exact .inr h
          · exact .inl (List.mem_cons_of_mem _ h)
      · rcases List.mem_cons.mp h with h | h
        · exact .inl (by simp [h])
        · rcases ih h with h | h
          · exact .inl (List.mem_cons_of_mem _ h)
          · exact .inr h

/-- Bytes stored inside a 512-byte block leave a 512-byte block. -/
theorem Memory.isBlock_writeBytes {m : Memory} {a : Nat} {bs : List Byte} (h : Memory.isBlock m = true)
    (ha : a + bs.length ≤ 512) : Memory.isBlock (Memory.writeBytes m a bs) = true := by
  induction bs generalizing m a with
  | nil => exact h
  | cons v vs ih =>
    simp only [List.length_cons] at ha
    refine ih ?_ (by omega)
    simp only [Memory.isBlock, Bool.and_eq_true, List.all_eq_true, decide_eq_true_eq] at h ⊢
    refine ⟨Memory.wf_write a v h.1, fun c hc => ?_⟩
    rcases Memory.mem_write hc with hc | hc
    · exact h.2 c hc
    · subst hc; show a < 512; omega

theorem Memory.isBlock_blockOf (f : Nat → Byte) : Memory.isBlock (Memory.blockOf f) = true :=
  Memory.isBlock_writeBytes rfl (by simp)

/-- The block of a function holds the function's bytes. -/
theorem Memory.read_blockOf {f : Nat → Byte} {j : Nat} (h : j < 512) : (Memory.blockOf f).read j = f j := by
  have hlen : ((List.range 512).map f).length = 512 := by simp
  have hread := Memory.read_writeBytes (m := []) (a := 0) (i := j) (bs := (List.range 512).map f) rfl (by omega)
  rw [Nat.zero_add] at hread
  rw [Memory.blockOf, hread]
  simp

end Sys2Proof
end

