-- ==== Sys2Proof/Laws/Driver.lean ====
section
/-! SUPPORT. Laws of the driver contract: what the tables of a record can answer, and what a record that obeys the contract
gives (40_driver_capability R151, R152, R156, R165, R166). -/

namespace Sys2Proof

/-! ### Conditions and tables -/

@[simp] theorem agrees_none {α : Type} [DecidableEq α] (v : α) : agrees none v = true := rfl

@[simp] theorem agrees_some {α : Type} [DecidableEq α] (w v : α) : agrees (some w) v = decide (w = v) := rfl

@[simp] theorem OpenTable.valueAt_const {π α : Type} (v : α) (fits : π → Bool) :
    (OpenTable.const v : OpenTable π α).valueAt fits = v := rfl

/-- A table answers the value beside its first condition that holds. -/
theorem OpenTable.valueAt_cons {π α : Type} (p : π) (v : α) (rest : List (π × α)) (otherwise : α) (fits : π → Bool) :
    ({ cases := (p, v) :: rest, otherwise := otherwise } : OpenTable π α).valueAt fits
      = if fits p then v else ({ cases := rest, otherwise := otherwise } : OpenTable π α).valueAt fits := by
  unfold OpenTable.valueAt
  cases h : fits p <;> simp [List.find?, h]

/-- What holds of every value of a table holds of its answer. -/
theorem OpenTable.all_valueAt {π α : Type} {t : OpenTable π α} {p : α → Bool} (h : t.all p = true) (fits : π → Bool) :
    p (t.valueAt fits) = true := by
  simp only [OpenTable.all, Bool.and_eq_true, List.all_eq_true] at h
  unfold OpenTable.valueAt
  split
  · rename_i c hc
    exact h.2 c (List.mem_of_find?_eq_some hc)
  · exact h.1

/-! ### Identify records -/

/-- The bytes of a computed record are those of its function, whatever that is. -/
theorem read_computedRecord {n j : Nat} {k : IdentifyKey} (h : j < 512) :
    (computedRecord n k).read j = Config.identifyByte n k j := Memory.read_blockOf h

/-- All that a lawful source can answer: no record, or a block of 512 bytes. -/
theorem RecordSource.record_isBlock {r : RecordSource} {k : IdentifyKey} {b : Block} (hr : r.lawful = true)
    (h : r.record k = some b) : Memory.isBlock b = true := by
  cases r with
  | absent => cases h
  | listed b' => obtain rfl : b' = b := Option.some.inj h; exact hr
  | computed n => obtain rfl : computedRecord n k = b := Option.some.inj h; exact Memory.isBlock_blockOf _
  | computedOrFails n =>
    simp only [RecordSource.record] at h
    split at h
    · cases h
    · obtain rfl : computedRecord n k = b := Option.some.inj h
      exact Memory.isBlock_blockOf _

theorem RecordSource.record_of_isAbsent {r : RecordSource} (h : r.isAbsent = true) (k : IdentifyKey) : r.record k = none := by
  obtain rfl : r = .absent := by simpa [RecordSource.isAbsent] using h
  rfl

theorem RecordSource.record_of_neverFails {r : RecordSource} (h : r.neverFails = true) (k : IdentifyKey) :
    ∃ b, r.record k = some b := by
  cases r with
  | absent => cases h
  | listed b => exact ⟨b, rfl⟩
  | computed n => exact ⟨computedRecord n k, rfl⟩
  | computedOrFails n => cases h

/-! ### The contract -/

/-- The laws of a record, one by one. -/
theorem Driver.conforms_iff {drv : Driver} : drv.conforms = true ↔
    drv.medium.lawful = true ∧ drv.identify.all RecordSource.lawful = true
      ∧ drv.identifyPacket.all RecordSource.lawful = true
      ∧ (drv.supportsPacket = true ∨ drv.identifyPacket.all RecordSource.isAbsent = true)
      ∧ drv.defaultGeometry.all Geometry.inRange = true
      ∧ (match drv.kind with
        | .hdd => True
        | .null => drv = Driver.null drv.id
        | .dvd => drv.identifyPacket.all RecordSource.neverFails = true
            ∧ drv = Driver.dvd drv.id drv.packetCmdSize drv.medium drv.reserved drv.identifyPacket) := by
  unfold Driver.conforms
  cases drv.kind <;> simp [Bool.and_eq_true, and_assoc]

/-- IDENTIFY DEVICE's record is a block of 512 bytes (40_driver_capability R151). -/
theorem Driver.identifyRecord_isBlock {drv : Driver} {k : IdentifyKey} {b : Block} (hd : drv.conforms = true)
    (h : drv.identifyRecord k = some b) : Memory.isBlock b = true :=
  RecordSource.record_isBlock (OpenTable.all_valueAt (Driver.conforms_iff.mp hd).2.1 _) h

/-- IDENTIFY PACKET DEVICE's record is a block of 512 bytes (40_driver_capability R152). -/
theorem Driver.identifyPacketRecord_isBlock {drv : Driver} {k : IdentifyKey} {b : Block} (hd : drv.conforms = true)
    (h : drv.identifyPacketRecord k = some b) : Memory.isBlock b = true :=
  RecordSource.record_isBlock (OpenTable.all_valueAt (Driver.conforms_iff.mp hd).2.2.1 _) h

/-- Without packet support IDENTIFY PACKET DEVICE fails on every device (40_driver_capability R152). -/
theorem Driver.identifyPacketRecord_without_packet {drv : Driver} (hd : drv.conforms = true)
    (hp : drv.supportsPacket = false) (k : IdentifyKey) : drv.identifyPacketRecord k = none := by
  have h : drv.identifyPacket.all RecordSource.isAbsent = true := by simpa [hp] using (Driver.conforms_iff.mp hd).2.2.2.1
  exact RecordSource.record_of_isAbsent (OpenTable.all_valueAt h _) k

/-- A DVD always gives a packet record (40_driver_capability R165). -/
theorem Driver.identifyPacketRecord_dvd {drv : Driver} (hd : drv.conforms = true) (hk : drv.kind = .dvd)
    (k : IdentifyKey) : ∃ b, drv.identifyPacketRecord k = some b := by
  have h := (Driver.conforms_iff.mp hd).2.2.2.2.2
  rw [hk] at h
  exact RecordSource.record_of_neverFails (OpenTable.all_valueAt h.1 _) k

/-- The Null driver gives no record and accepts nothing (40_driver_capability R166). -/
theorem Driver.null_fails (id : Nat) (k : IdentifyKey) (block : Block) (heads spt : Nat) :
    (Driver.null id).identifyRecord k = none ∧ (Driver.null id).identifyPacketRecord k = none
      ∧ (Driver.null id).securityUnlockOk block = false ∧ (Driver.null id).setParamsOk heads spt = false :=
  ⟨rfl, rfl, rfl, rfl⟩

end Sys2Proof
end

