-- ==== Sys2Proof/Laws/State.lean ====
section
/-! SUPPORT. What each named update of the state does to each field: one lemma per field per update, so that no proof unfolds
a record update. -/

namespace Sys2Proof.Machine

/-! ### `setRegs` -/

@[simp] theorem State.setRegs_regs (s : State) (r : Regs) : (s.setRegs r).regs = r := rfl
@[simp] theorem State.setRegs_intPending (s : State) (r : Regs) : (s.setRegs r).intPending = s.intPending := rfl
@[simp] theorem State.setRegs_cur (s : State) (r : Regs) : (s.setRegs r).cur = s.cur := rfl
@[simp] theorem State.setRegs_dev0 (s : State) (r : Regs) : (s.setRegs r).dev0 = s.dev0 := rfl
@[simp] theorem State.setRegs_dev1 (s : State) (r : Regs) : (s.setRegs r).dev1 = s.dev1 := rfl
@[simp] theorem State.setRegs_fault (s : State) (r : Regs) : (s.setRegs r).fault = s.fault := rfl
@[simp] theorem State.setRegs_refused (s : State) (r : Regs) : (s.setRegs r).refused = s.refused := rfl
@[simp] theorem State.setRegs_trace (s : State) (r : Regs) : (s.setRegs r).trace = s.trace := rfl
@[simp] theorem State.setRegs_unsupportedAborts (s : State) (r : Regs) : (s.setRegs r).unsupportedAborts = s.unsupportedAborts := rfl
@[simp] theorem State.setRegs_inbox (s : State) (r : Regs) : (s.setRegs r).inbox = s.inbox := rfl
@[simp] theorem State.setRegs_reply (s : State) (r : Regs) : (s.setRegs r).reply = s.reply := rfl
@[simp] theorem State.setRegs_answers (s : State) (r : Regs) : (s.setRegs r).answers = s.answers := rfl
@[simp] theorem State.setRegs_backendCalls (s : State) (r : Regs) : (s.setRegs r).backendCalls = s.backendCalls := rfl
@[simp] theorem State.setRegs_draws (s : State) (r : Regs) : (s.setRegs r).draws = s.draws := rfl
@[simp] theorem State.setRegs_dev (s : State) (r : Regs) (d : Slot) : (s.setRegs r).dev d = s.dev d := by
  cases d <;> rfl

/-! ### `setCur` -/

@[simp] theorem State.setCur_regs (s : State) (c : Option Command) : (s.setCur c).regs = s.regs := rfl
@[simp] theorem State.setCur_intPending (s : State) (c : Option Command) : (s.setCur c).intPending = s.intPending := rfl
@[simp] theorem State.setCur_cur (s : State) (c : Option Command) : (s.setCur c).cur = c := rfl
@[simp] theorem State.setCur_dev0 (s : State) (c : Option Command) : (s.setCur c).dev0 = s.dev0 := rfl
@[simp] theorem State.setCur_dev1 (s : State) (c : Option Command) : (s.setCur c).dev1 = s.dev1 := rfl
@[simp] theorem State.setCur_fault (s : State) (c : Option Command) : (s.setCur c).fault = s.fault := rfl
@[simp] theorem State.setCur_refused (s : State) (c : Option Command) : (s.setCur c).refused = s.refused := rfl
@[simp] theorem State.setCur_trace (s : State) (c : Option Command) : (s.setCur c).trace = s.trace := rfl
@[simp] theorem State.setCur_unsupportedAborts (s : State) (c : Option Command) : (s.setCur c).unsupportedAborts = s.unsupportedAborts := rfl
@[simp] theorem State.setCur_inbox (s : State) (c : Option Command) : (s.setCur c).inbox = s.inbox := rfl
@[simp] theorem State.setCur_reply (s : State) (c : Option Command) : (s.setCur c).reply = s.reply := rfl
@[simp] theorem State.setCur_answers (s : State) (c : Option Command) : (s.setCur c).answers = s.answers := rfl
@[simp] theorem State.setCur_backendCalls (s : State) (c : Option Command) : (s.setCur c).backendCalls = s.backendCalls := rfl
@[simp] theorem State.setCur_draws (s : State) (c : Option Command) : (s.setCur c).draws = s.draws := rfl
@[simp] theorem State.setCur_dev (s : State) (c : Option Command) (d : Slot) : (s.setCur c).dev d = s.dev d := by
  cases d <;> rfl

/-! ### `setInt` -/

@[simp] theorem State.setInt_regs (s : State) (b : Bool) : (s.setInt b).regs = s.regs := rfl
@[simp] theorem State.setInt_intPending (s : State) (b : Bool) : (s.setInt b).intPending = b := rfl
@[simp] theorem State.setInt_cur (s : State) (b : Bool) : (s.setInt b).cur = s.cur := rfl
@[simp] theorem State.setInt_dev0 (s : State) (b : Bool) : (s.setInt b).dev0 = s.dev0 := rfl
@[simp] theorem State.setInt_dev1 (s : State) (b : Bool) : (s.setInt b).dev1 = s.dev1 := rfl
@[simp] theorem State.setInt_fault (s : State) (b : Bool) : (s.setInt b).fault = s.fault := rfl
@[simp] theorem State.setInt_refused (s : State) (b : Bool) : (s.setInt b).refused = s.refused := rfl
@[simp] theorem State.setInt_trace (s : State) (b : Bool) : (s.setInt b).trace = s.trace := rfl
@[simp] theorem State.setInt_unsupportedAborts (s : State) (b : Bool) : (s.setInt b).unsupportedAborts = s.unsupportedAborts := rfl
@[simp] theorem State.setInt_inbox (s : State) (b : Bool) : (s.setInt b).inbox = s.inbox := rfl
@[simp] theorem State.setInt_reply (s : State) (b : Bool) : (s.setInt b).reply = s.reply := rfl
@[simp] theorem State.setInt_answers (s : State) (b : Bool) : (s.setInt b).answers = s.answers := rfl
@[simp] theorem State.setInt_backendCalls (s : State) (b : Bool) : (s.setInt b).backendCalls = s.backendCalls := rfl
@[simp] theorem State.setInt_draws (s : State) (b : Bool) : (s.setInt b).draws = s.draws := rfl
@[simp] theorem State.setInt_dev (s : State) (b : Bool) (d : Slot) : (s.setInt b).dev d = s.dev d := by
  cases d <;> rfl

/-! ### `setReply` -/

@[simp] theorem State.setReply_regs (s : State) (r : Reply) : (s.setReply r).regs = s.regs := rfl
@[simp] theorem State.setReply_intPending (s : State) (r : Reply) : (s.setReply r).intPending = s.intPending := rfl
@[simp] theorem State.setReply_cur (s : State) (r : Reply) : (s.setReply r).cur = s.cur := rfl
@[simp] theorem State.setReply_dev0 (s : State) (r : Reply) : (s.setReply r).dev0 = s.dev0 := rfl
@[simp] theorem State.setReply_dev1 (s : State) (r : Reply) : (s.setReply r).dev1 = s.dev1 := rfl
@[simp] theorem State.setReply_fault (s : State) (r : Reply) : (s.setReply r).fault = s.fault := rfl
@[simp] theorem State.setReply_refused (s : State) (r : Reply) : (s.setReply r).refused = s.refused := rfl
@[simp] theorem State.setReply_trace (s : State) (r : Reply) : (s.setReply r).trace = s.trace := rfl
@[simp] theorem State.setReply_unsupportedAborts (s : State) (r : Reply) : (s.setReply r).unsupportedAborts = s.unsupportedAborts := rfl
@[simp] theorem State.setReply_inbox (s : State) (r : Reply) : (s.setReply r).inbox = s.inbox := rfl
@[simp] theorem State.setReply_reply (s : State) (r : Reply) : (s.setReply r).reply = r := rfl
@[simp] theorem State.setReply_answers (s : State) (r : Reply) : (s.setReply r).answers = s.answers := rfl
@[simp] theorem State.setReply_backendCalls (s : State) (r : Reply) : (s.setReply r).backendCalls = s.backendCalls := rfl
@[simp] theorem State.setReply_draws (s : State) (r : Reply) : (s.setReply r).draws = s.draws := rfl
@[simp] theorem State.setReply_dev (s : State) (r : Reply) (d : Slot) : (s.setReply r).dev d = s.dev d := by
  cases d <;> rfl

/-! ### `emit` -/

@[simp] theorem State.emit_regs (s : State) (e : Event) : (s.emit e).regs = s.regs := rfl
@[simp] theorem State.emit_intPending (s : State) (e : Event) : (s.emit e).intPending = s.intPending := rfl
@[simp] theorem State.emit_cur (s : State) (e : Event) : (s.emit e).cur = s.cur := rfl
@[simp] theorem State.emit_dev0 (s : State) (e : Event) : (s.emit e).dev0 = s.dev0 := rfl
@[simp] theorem State.emit_dev1 (s : State) (e : Event) : (s.emit e).dev1 = s.dev1 := rfl
@[simp] theorem State.emit_fault (s : State) (e : Event) : (s.emit e).fault = s.fault := rfl
@[simp] theorem State.emit_refused (s : State) (e : Event) : (s.emit e).refused = s.refused := rfl
@[simp] theorem State.emit_trace (s : State) (e : Event) : (s.emit e).trace = s.trace ++ [e] := rfl
@[simp] theorem State.emit_unsupportedAborts (s : State) (e : Event) : (s.emit e).unsupportedAborts = s.unsupportedAborts := rfl
@[simp] theorem State.emit_inbox (s : State) (e : Event) : (s.emit e).inbox = s.inbox := rfl
@[simp] theorem State.emit_reply (s : State) (e : Event) : (s.emit e).reply = s.reply := rfl
@[simp] theorem State.emit_answers (s : State) (e : Event) : (s.emit e).answers = s.answers := rfl
@[simp] theorem State.emit_backendCalls (s : State) (e : Event) : (s.emit e).backendCalls = s.backendCalls := rfl
@[simp] theorem State.emit_draws (s : State) (e : Event) : (s.emit e).draws = s.draws := rfl
@[simp] theorem State.emit_dev (s : State) (e : Event) (d : Slot) : (s.emit e).dev d = s.dev d := by
  cases d <;> rfl

/-! ### `raiseFault` -/

@[simp] theorem State.raiseFault_regs (s : State) (r : FaultReason) : (s.raiseFault r).regs = s.regs := rfl
@[simp] theorem State.raiseFault_intPending (s : State) (r : FaultReason) : (s.raiseFault r).intPending = s.intPending := rfl
@[simp] theorem State.raiseFault_cur (s : State) (r : FaultReason) : (s.raiseFault r).cur = s.cur := rfl
@[simp] theorem State.raiseFault_dev0 (s : State) (r : FaultReason) : (s.raiseFault r).dev0 = s.dev0 := rfl
@[simp] theorem State.raiseFault_dev1 (s : State) (r : FaultReason) : (s.raiseFault r).dev1 = s.dev1 := rfl
@[simp] theorem State.raiseFault_fault (s : State) (r : FaultReason) : (s.raiseFault r).fault = some r := rfl
@[simp] theorem State.raiseFault_refused (s : State) (r : FaultReason) : (s.raiseFault r).refused = s.refused := rfl
@[simp] theorem State.raiseFault_trace (s : State) (r : FaultReason) : (s.raiseFault r).trace = s.trace := rfl
@[simp] theorem State.raiseFault_unsupportedAborts (s : State) (r : FaultReason) : (s.raiseFault r).unsupportedAborts = s.unsupportedAborts := rfl
@[simp] theorem State.raiseFault_inbox (s : State) (r : FaultReason) : (s.raiseFault r).inbox = s.inbox := rfl
@[simp] theorem State.raiseFault_reply (s : State) (r : FaultReason) : (s.raiseFault r).reply = s.reply := rfl
@[simp] theorem State.raiseFault_answers (s : State) (r : FaultReason) : (s.raiseFault r).answers = s.answers := rfl
@[simp] theorem State.raiseFault_backendCalls (s : State) (r : FaultReason) : (s.raiseFault r).backendCalls = s.backendCalls := rfl
@[simp] theorem State.raiseFault_draws (s : State) (r : FaultReason) : (s.raiseFault r).draws = s.draws := rfl
@[simp] theorem State.raiseFault_dev (s : State) (r : FaultReason) (d : Slot) : (s.raiseFault r).dev d = s.dev d := by
  cases d <;> rfl

/-! ### `refuse` -/

@[simp] theorem State.refuse_regs (s : State) (r : RefuseReason) : (s.refuse r).regs = s.regs := rfl
@[simp] theorem State.refuse_intPending (s : State) (r : RefuseReason) : (s.refuse r).intPending = s.intPending := rfl
@[simp] theorem State.refuse_cur (s : State) (r : RefuseReason) : (s.refuse r).cur = s.cur := rfl
@[simp] theorem State.refuse_dev0 (s : State) (r : RefuseReason) : (s.refuse r).dev0 = s.dev0 := rfl
@[simp] theorem State.refuse_dev1 (s : State) (r : RefuseReason) : (s.refuse r).dev1 = s.dev1 := rfl
@[simp] theorem State.refuse_fault (s : State) (r : RefuseReason) : (s.refuse r).fault = s.fault := rfl
@[simp] theorem State.refuse_refused (s : State) (r : RefuseReason) : (s.refuse r).refused = some r := rfl
@[simp] theorem State.refuse_trace (s : State) (r : RefuseReason) : (s.refuse r).trace = s.trace := rfl
@[simp] theorem State.refuse_unsupportedAborts (s : State) (r : RefuseReason) : (s.refuse r).unsupportedAborts = s.unsupportedAborts := rfl
@[simp] theorem State.refuse_inbox (s : State) (r : RefuseReason) : (s.refuse r).inbox = s.inbox := rfl
@[simp] theorem State.refuse_reply (s : State) (r : RefuseReason) : (s.refuse r).reply = s.reply := rfl
@[simp] theorem State.refuse_answers (s : State) (r : RefuseReason) : (s.refuse r).answers = s.answers := rfl
@[simp] theorem State.refuse_backendCalls (s : State) (r : RefuseReason) : (s.refuse r).backendCalls = s.backendCalls := rfl
@[simp] theorem State.refuse_draws (s : State) (r : RefuseReason) : (s.refuse r).draws = s.draws := rfl
@[simp] theorem State.refuse_dev (s : State) (r : RefuseReason) (d : Slot) : (s.refuse r).dev d = s.dev d := by
  cases d <;> rfl

/-! ### `diag` -/

@[simp] theorem State.diag_regs (s : State) (m : Diagnostic) : (s.diag m).regs = s.regs := rfl
@[simp] theorem State.diag_intPending (s : State) (m : Diagnostic) : (s.diag m).intPending = s.intPending := rfl
@[simp] theorem State.diag_cur (s : State) (m : Diagnostic) : (s.diag m).cur = s.cur := rfl
@[simp] theorem State.diag_dev0 (s : State) (m : Diagnostic) : (s.diag m).dev0 = s.dev0 := rfl
@[simp] theorem State.diag_dev1 (s : State) (m : Diagnostic) : (s.diag m).dev1 = s.dev1 := rfl
@[simp] theorem State.diag_fault (s : State) (m : Diagnostic) : (s.diag m).fault = s.fault := rfl
@[simp] theorem State.diag_refused (s : State) (m : Diagnostic) : (s.diag m).refused = s.refused := rfl
@[simp] theorem State.diag_trace (s : State) (m : Diagnostic) : (s.diag m).trace = s.trace ++ [.diag m] := rfl
@[simp] theorem State.diag_unsupportedAborts (s : State) (m : Diagnostic) : (s.diag m).unsupportedAborts = s.unsupportedAborts := rfl
@[simp] theorem State.diag_inbox (s : State) (m : Diagnostic) : (s.diag m).inbox = s.inbox := rfl
@[simp] theorem State.diag_reply (s : State) (m : Diagnostic) : (s.diag m).reply = s.reply := rfl
@[simp] theorem State.diag_answers (s : State) (m : Diagnostic) : (s.diag m).answers = s.answers := rfl
@[simp] theorem State.diag_backendCalls (s : State) (m : Diagnostic) : (s.diag m).backendCalls = s.backendCalls := rfl
@[simp] theorem State.diag_draws (s : State) (m : Diagnostic) : (s.diag m).draws = s.draws := rfl
@[simp] theorem State.diag_dev (s : State) (m : Diagnostic) (d : Slot) : (s.diag m).dev d = s.dev d := by
  cases d <;> rfl

/-! ### `skipDraws` -/

@[simp] theorem State.skipDraws_regs (s : State) (n : Nat) : (s.skipDraws n).regs = s.regs := rfl
@[simp] theorem State.skipDraws_intPending (s : State) (n : Nat) : (s.skipDraws n).intPending = s.intPending := rfl
@[simp] theorem State.skipDraws_cur (s : State) (n : Nat) : (s.skipDraws n).cur = s.cur := rfl
@[simp] theorem State.skipDraws_dev0 (s : State) (n : Nat) : (s.skipDraws n).dev0 = s.dev0 := rfl
@[simp] theorem State.skipDraws_dev1 (s : State) (n : Nat) : (s.skipDraws n).dev1 = s.dev1 := rfl
@[simp] theorem State.skipDraws_fault (s : State) (n : Nat) : (s.skipDraws n).fault = s.fault := rfl
@[simp] theorem State.skipDraws_refused (s : State) (n : Nat) : (s.skipDraws n).refused = s.refused := rfl
@[simp] theorem State.skipDraws_trace (s : State) (n : Nat) : (s.skipDraws n).trace = s.trace := rfl
@[simp] theorem State.skipDraws_unsupportedAborts (s : State) (n : Nat) : (s.skipDraws n).unsupportedAborts = s.unsupportedAborts := rfl
@[simp] theorem State.skipDraws_inbox (s : State) (n : Nat) : (s.skipDraws n).inbox = s.inbox := rfl
@[simp] theorem State.skipDraws_reply (s : State) (n : Nat) : (s.skipDraws n).reply = s.reply := rfl
@[simp] theorem State.skipDraws_answers (s : State) (n : Nat) : (s.skipDraws n).answers = s.answers := rfl
@[simp] theorem State.skipDraws_backendCalls (s : State) (n : Nat) : (s.skipDraws n).backendCalls = s.backendCalls := rfl
@[simp] theorem State.skipDraws_draws (s : State) (n : Nat) : (s.skipDraws n).draws = s.draws + n := rfl
@[simp] theorem State.skipDraws_dev (s : State) (n : Nat) (d : Slot) : (s.skipDraws n).dev d = s.dev d := by
  cases d <;> rfl

/-! ### `afterBackendCall` -/

@[simp] theorem State.afterBackendCall_regs (s : State) : (s.afterBackendCall).regs = s.regs := rfl
@[simp] theorem State.afterBackendCall_intPending (s : State) : (s.afterBackendCall).intPending = s.intPending := rfl
@[simp] theorem State.afterBackendCall_cur (s : State) : (s.afterBackendCall).cur = s.cur := rfl
@[simp] theorem State.afterBackendCall_dev0 (s : State) : (s.afterBackendCall).dev0 = s.dev0 := rfl
@[simp] theorem State.afterBackendCall_dev1 (s : State) : (s.afterBackendCall).dev1 = s.dev1 := rfl
@[simp] theorem State.afterBackendCall_fault (s : State) : (s.afterBackendCall).fault = s.fault := rfl
@[simp] theorem State.afterBackendCall_refused (s : State) : (s.afterBackendCall).refused = s.refused := rfl
@[simp] theorem State.afterBackendCall_trace (s : State) : (s.afterBackendCall).trace = s.trace := rfl
@[simp] theorem State.afterBackendCall_unsupportedAborts (s : State) : (s.afterBackendCall).unsupportedAborts = s.unsupportedAborts := rfl
@[simp] theorem State.afterBackendCall_inbox (s : State) : (s.afterBackendCall).inbox = s.inbox := rfl
@[simp] theorem State.afterBackendCall_reply (s : State) : (s.afterBackendCall).reply = s.reply := rfl
@[simp] theorem State.afterBackendCall_answers (s : State) : (s.afterBackendCall).answers = s.answers.tail := rfl
@[simp] theorem State.afterBackendCall_backendCalls (s : State) : (s.afterBackendCall).backendCalls = s.backendCalls + 1 := rfl
@[simp] theorem State.afterBackendCall_draws (s : State) : (s.afterBackendCall).draws = s.draws := rfl
@[simp] theorem State.afterBackendCall_dev (s : State) (d : Slot) : (s.afterBackendCall).dev d = s.dev d := by
  cases d <;> rfl

/-! ### `assertInt` -/

@[simp] theorem State.assertInt_regs (s : State) : (s.assertInt).regs = s.regs := rfl
@[simp] theorem State.assertInt_intPending (s : State) : (s.assertInt).intPending = true := rfl
@[simp] theorem State.assertInt_cur (s : State) : (s.assertInt).cur = s.cur := rfl
@[simp] theorem State.assertInt_dev0 (s : State) : (s.assertInt).dev0 = s.dev0 := rfl
@[simp] theorem State.assertInt_dev1 (s : State) : (s.assertInt).dev1 = s.dev1 := rfl
@[simp] theorem State.assertInt_fault (s : State) : (s.assertInt).fault = s.fault := rfl
@[simp] theorem State.assertInt_refused (s : State) : (s.assertInt).refused = s.refused := rfl
@[simp] theorem State.assertInt_trace (s : State) : (s.assertInt).trace = s.trace := rfl
@[simp] theorem State.assertInt_unsupportedAborts (s : State) : (s.assertInt).unsupportedAborts = s.unsupportedAborts := rfl
@[simp] theorem State.assertInt_inbox (s : State) : (s.assertInt).inbox = s.inbox := rfl
@[simp] theorem State.assertInt_reply (s : State) : (s.assertInt).reply = s.reply := rfl
@[simp] theorem State.assertInt_answers (s : State) : (s.assertInt).answers = s.answers := rfl
@[simp] theorem State.assertInt_backendCalls (s : State) : (s.assertInt).backendCalls = s.backendCalls := rfl
@[simp] theorem State.assertInt_draws (s : State) : (s.assertInt).draws = s.draws := rfl
@[simp] theorem State.assertInt_dev (s : State) (d : Slot) : (s.assertInt).dev d = s.dev d := by
  cases d <;> rfl

/-! ### `withInbox` -/

@[simp] theorem State.withInbox_regs (s : State) (q : List Request) : (s.withInbox q).regs = s.regs := rfl
@[simp] theorem State.withInbox_intPending (s : State) (q : List Request) : (s.withInbox q).intPending = s.intPending := rfl
@[simp] theorem State.withInbox_cur (s : State) (q : List Request) : (s.withInbox q).cur = s.cur := rfl
@[simp] theorem State.withInbox_dev0 (s : State) (q : List Request) : (s.withInbox q).dev0 = s.dev0 := rfl
@[simp] theorem State.withInbox_dev1 (s : State) (q : List Request) : (s.withInbox q).dev1 = s.dev1 := rfl
@[simp] theorem State.withInbox_fault (s : State) (q : List Request) : (s.withInbox q).fault = s.fault := rfl
@[simp] theorem State.withInbox_refused (s : State) (q : List Request) : (s.withInbox q).refused = s.refused := rfl
@[simp] theorem State.withInbox_trace (s : State) (q : List Request) : (s.withInbox q).trace = s.trace := rfl
@[simp] theorem State.withInbox_unsupportedAborts (s : State) (q : List Request) : (s.withInbox q).unsupportedAborts = s.unsupportedAborts := rfl
@[simp] theorem State.withInbox_inbox (s : State) (q : List Request) : (s.withInbox q).inbox = q := rfl
@[simp] theorem State.withInbox_reply (s : State) (q : List Request) : (s.withInbox q).reply = s.reply := rfl
@[simp] theorem State.withInbox_answers (s : State) (q : List Request) : (s.withInbox q).answers = s.answers := rfl
@[simp] theorem State.withInbox_backendCalls (s : State) (q : List Request) : (s.withInbox q).backendCalls = s.backendCalls := rfl
@[simp] theorem State.withInbox_draws (s : State) (q : List Request) : (s.withInbox q).draws = s.draws := rfl
@[simp] theorem State.withInbox_dev (s : State) (q : List Request) (d : Slot) : (s.withInbox q).dev d = s.dev d := by
  cases d <;> rfl

/-! ### `setDev` -/

@[simp] theorem State.setDev_regs (s : State) (d : Slot) (v : Device) : (s.setDev d v).regs = s.regs := by
  cases d <;> rfl
@[simp] theorem State.setDev_intPending (s : State) (d : Slot) (v : Device) : (s.setDev d v).intPending = s.intPending := by
  cases d <;> rfl
@[simp] theorem State.setDev_cur (s : State) (d : Slot) (v : Device) : (s.setDev d v).cur = s.cur := by
  cases d <;> rfl
@[simp] theorem State.setDev_fault (s : State) (d : Slot) (v : Device) : (s.setDev d v).fault = s.fault := by
  cases d <;> rfl
@[simp] theorem State.setDev_refused (s : State) (d : Slot) (v : Device) : (s.setDev d v).refused = s.refused := by
  cases d <;> rfl
@[simp] theorem State.setDev_trace (s : State) (d : Slot) (v : Device) : (s.setDev d v).trace = s.trace := by
  cases d <;> rfl
@[simp] theorem State.setDev_unsupportedAborts (s : State) (d : Slot) (v : Device) : (s.setDev d v).unsupportedAborts = s.unsupportedAborts := by
  cases d <;> rfl
@[simp] theorem State.setDev_inbox (s : State) (d : Slot) (v : Device) : (s.setDev d v).inbox = s.inbox := by
  cases d <;> rfl
@[simp] theorem State.setDev_reply (s : State) (d : Slot) (v : Device) : (s.setDev d v).reply = s.reply := by
  cases d <;> rfl
@[simp] theorem State.setDev_answers (s : State) (d : Slot) (v : Device) : (s.setDev d v).answers = s.answers := by
  cases d <;> rfl
@[simp] theorem State.setDev_backendCalls (s : State) (d : Slot) (v : Device) : (s.setDev d v).backendCalls = s.backendCalls := by
  cases d <;> rfl
@[simp] theorem State.setDev_draws (s : State) (d : Slot) (v : Device) : (s.setDev d v).draws = s.draws := by
  cases d <;> rfl
@[simp] theorem State.setDev_master_dev0 (s : State) (v : Device) : (s.setDev .master v).dev0 = v := rfl
@[simp] theorem State.setDev_master_dev1 (s : State) (v : Device) : (s.setDev .master v).dev1 = s.dev1 := rfl
@[simp] theorem State.setDev_slave_dev0 (s : State) (v : Device) : (s.setDev .slave v).dev0 = s.dev0 := rfl
@[simp] theorem State.setDev_slave_dev1 (s : State) (v : Device) : (s.setDev .slave v).dev1 = v := rfl
@[simp] theorem State.dev_master (s : State) : s.dev .master = s.dev0 := rfl
@[simp] theorem State.dev_slave (s : State) : s.dev .slave = s.dev1 := rfl
@[simp] theorem State.setDev_dev_same (s : State) (d : Slot) (v : Device) : (s.setDev d v).dev d = v := by
  cases d <;> rfl

/-- Replacing one device leaves the other alone. -/
theorem State.setDev_dev (s : State) (d d' : Slot) (v : Device) :
    (s.setDev d v).dev d' = if d' = d then v else s.dev d' := by
  cases d <;> cases d' <;> rfl

theorem State.setDev_dev_other (s : State) {d d' : Slot} (h : d' ≠ d) (v : Device) :
    (s.setDev d v).dev d' = s.dev d' := by
  rw [State.setDev_dev, if_neg h]

/-! ### Updates of a device -/

@[simp] theorem Device.afterRead_driver (D : Device) (n : Nat) : (D.afterRead n).driver = D.driver := rfl
@[simp] theorem Device.afterRead_pioMode (D : Device) (n : Nat) : (D.afterRead n).pioMode = D.pioMode := rfl
@[simp] theorem Device.afterRead_dmaMode (D : Device) (n : Nat) : (D.afterRead n).dmaMode = D.dmaMode := rfl
@[simp] theorem Device.afterRead_pioBuf (D : Device) (n : Nat) : (D.afterRead n).pioBuf = D.pioBuf := rfl
@[simp] theorem Device.afterRead_pioCursor (D : Device) (n : Nat) : (D.afterRead n).pioCursor = D.pioCursor + D.moveCount n := rfl
@[simp] theorem Device.afterRead_dma (D : Device) (n : Nat) : (D.afterRead n).dma = D.dma := rfl
@[simp] theorem Device.afterRead_transferActive (D : Device) (n : Nat) : (D.afterRead n).transferActive = D.transferActive := rfl
@[simp] theorem Device.afterRead_geometry (D : Device) (n : Nat) : (D.afterRead n).geometry = D.geometry := rfl
@[simp] theorem Device.afterRead_modes (D : Device) (n : Nat) : (D.afterRead n).modes = D.modes := rfl

@[simp] theorem Device.writeBuffer_driver (D : Device) (v : BitVec 32) (n : Nat) : (D.writeBuffer v n).driver = D.driver := rfl
@[simp] theorem Device.writeBuffer_pioMode (D : Device) (v : BitVec 32) (n : Nat) : (D.writeBuffer v n).pioMode = D.pioMode := rfl
@[simp] theorem Device.writeBuffer_dmaMode (D : Device) (v : BitVec 32) (n : Nat) : (D.writeBuffer v n).dmaMode = D.dmaMode := rfl
@[simp] theorem Device.writeBuffer_pioBuf (D : Device) (v : BitVec 32) (n : Nat) : (D.writeBuffer v n).pioBuf = Memory.writeBytes D.pioBuf D.pioCursor (bytesOf v (D.moveCount n)) := rfl
@[simp] theorem Device.writeBuffer_pioCursor (D : Device) (v : BitVec 32) (n : Nat) : (D.writeBuffer v n).pioCursor = D.pioCursor + D.moveCount n := rfl
@[simp] theorem Device.writeBuffer_dma (D : Device) (v : BitVec 32) (n : Nat) : (D.writeBuffer v n).dma = D.dma := rfl
@[simp] theorem Device.writeBuffer_transferActive (D : Device) (v : BitVec 32) (n : Nat) : (D.writeBuffer v n).transferActive = D.transferActive := rfl
@[simp] theorem Device.writeBuffer_geometry (D : Device) (v : BitVec 32) (n : Nat) : (D.writeBuffer v n).geometry = D.geometry := rfl
@[simp] theorem Device.writeBuffer_modes (D : Device) (v : BitVec 32) (n : Nat) : (D.writeBuffer v n).modes = D.modes := rfl

@[simp] theorem Device.fill_driver (D : Device) (b : Block) : (D.fill b).driver = D.driver := rfl
@[simp] theorem Device.fill_pioMode (D : Device) (b : Block) : (D.fill b).pioMode = D.pioMode := rfl
@[simp] theorem Device.fill_dmaMode (D : Device) (b : Block) : (D.fill b).dmaMode = D.dmaMode := rfl
@[simp] theorem Device.fill_pioBuf (D : Device) (b : Block) : (D.fill b).pioBuf = b := rfl
@[simp] theorem Device.fill_pioCursor (D : Device) (b : Block) : (D.fill b).pioCursor = 0 := rfl
@[simp] theorem Device.fill_dma (D : Device) (b : Block) : (D.fill b).dma = D.dma := rfl
@[simp] theorem Device.fill_transferActive (D : Device) (b : Block) : (D.fill b).transferActive = D.transferActive := rfl
@[simp] theorem Device.fill_geometry (D : Device) (b : Block) : (D.fill b).geometry = D.geometry := rfl
@[simp] theorem Device.fill_modes (D : Device) (b : Block) : (D.fill b).modes = D.modes := rfl

@[simp] theorem Device.rewind_driver (D : Device) : (D.rewind).driver = D.driver := rfl
@[simp] theorem Device.rewind_pioMode (D : Device) : (D.rewind).pioMode = D.pioMode := rfl
@[simp] theorem Device.rewind_dmaMode (D : Device) : (D.rewind).dmaMode = D.dmaMode := rfl
@[simp] theorem Device.rewind_pioBuf (D : Device) : (D.rewind).pioBuf = D.pioBuf := rfl
@[simp] theorem Device.rewind_pioCursor (D : Device) : (D.rewind).pioCursor = 0 := rfl
@[simp] theorem Device.rewind_dma (D : Device) : (D.rewind).dma = D.dma := rfl
@[simp] theorem Device.rewind_transferActive (D : Device) : (D.rewind).transferActive = D.transferActive := rfl
@[simp] theorem Device.rewind_geometry (D : Device) : (D.rewind).geometry = D.geometry := rfl
@[simp] theorem Device.rewind_modes (D : Device) : (D.rewind).modes = D.modes := rfl

@[simp] theorem Device.drain_driver (D : Device) : (D.drain).driver = D.driver := rfl
@[simp] theorem Device.drain_pioMode (D : Device) : (D.drain).pioMode = D.pioMode := rfl
@[simp] theorem Device.drain_dmaMode (D : Device) : (D.drain).dmaMode = D.dmaMode := rfl
@[simp] theorem Device.drain_pioBuf (D : Device) : (D.drain).pioBuf = D.pioBuf := rfl
@[simp] theorem Device.drain_pioCursor (D : Device) : (D.drain).pioCursor = pioBufSize := rfl
@[simp] theorem Device.drain_dma (D : Device) : (D.drain).dma = D.dma := rfl
@[simp] theorem Device.drain_transferActive (D : Device) : (D.drain).transferActive = D.transferActive := rfl
@[simp] theorem Device.drain_geometry (D : Device) : (D.drain).geometry = D.geometry := rfl
@[simp] theorem Device.drain_modes (D : Device) : (D.drain).modes = D.modes := rfl

@[simp] theorem Device.arm_driver (D : Device) (w : DmaWindow) : (D.arm w).driver = D.driver := rfl
@[simp] theorem Device.arm_pioMode (D : Device) (w : DmaWindow) : (D.arm w).pioMode = D.pioMode := rfl
@[simp] theorem Device.arm_dmaMode (D : Device) (w : DmaWindow) : (D.arm w).dmaMode = D.dmaMode := rfl
@[simp] theorem Device.arm_pioBuf (D : Device) (w : DmaWindow) : (D.arm w).pioBuf = D.pioBuf := rfl
@[simp] theorem Device.arm_pioCursor (D : Device) (w : DmaWindow) : (D.arm w).pioCursor = D.pioCursor := rfl
@[simp] theorem Device.arm_dma (D : Device) (w : DmaWindow) : (D.arm w).dma = w := rfl
@[simp] theorem Device.arm_transferActive (D : Device) (w : DmaWindow) : (D.arm w).transferActive = true := rfl
@[simp] theorem Device.arm_geometry (D : Device) (w : DmaWindow) : (D.arm w).geometry = D.geometry := rfl
@[simp] theorem Device.arm_modes (D : Device) (w : DmaWindow) : (D.arm w).modes = D.modes := rfl

@[simp] theorem Device.endDma_driver (D : Device) : (D.endDma).driver = D.driver := rfl
@[simp] theorem Device.endDma_pioMode (D : Device) : (D.endDma).pioMode = D.pioMode := rfl
@[simp] theorem Device.endDma_dmaMode (D : Device) : (D.endDma).dmaMode = D.dmaMode := rfl
@[simp] theorem Device.endDma_pioBuf (D : Device) : (D.endDma).pioBuf = D.pioBuf := rfl
@[simp] theorem Device.endDma_pioCursor (D : Device) : (D.endDma).pioCursor = D.pioCursor := rfl
@[simp] theorem Device.endDma_dma (D : Device) : (D.endDma).dma = .idle := rfl
@[simp] theorem Device.endDma_transferActive (D : Device) : (D.endDma).transferActive = false := rfl
@[simp] theorem Device.endDma_geometry (D : Device) : (D.endDma).geometry = D.geometry := rfl
@[simp] theorem Device.endDma_modes (D : Device) : (D.endDma).modes = D.modes := rfl

@[simp] theorem Device.advance_driver (D : Device) : (D.advance).driver = D.driver := rfl
@[simp] theorem Device.advance_pioMode (D : Device) : (D.advance).pioMode = D.pioMode := rfl
@[simp] theorem Device.advance_dmaMode (D : Device) : (D.advance).dmaMode = D.dmaMode := rfl
@[simp] theorem Device.advance_pioBuf (D : Device) : (D.advance).pioBuf = D.pioBuf := rfl
@[simp] theorem Device.advance_pioCursor (D : Device) : (D.advance).pioCursor = D.pioCursor := rfl
@[simp] theorem Device.advance_dma (D : Device) : (D.advance).dma = { D.dma with curLba := BitVec.ofNat 32 (D.dma.curLba.toNat + 1) } := rfl
@[simp] theorem Device.advance_transferActive (D : Device) : (D.advance).transferActive = D.transferActive := rfl
@[simp] theorem Device.advance_geometry (D : Device) : (D.advance).geometry = D.geometry := rfl
@[simp] theorem Device.advance_modes (D : Device) : (D.advance).modes = D.modes := rfl

@[simp] theorem Device.storeSector_driver (D : Device) (bs : List Byte) : (D.storeSector bs).driver = D.driver.withImage (Memory.writeBytes D.driver.medium.img D.sectorAddress bs) := rfl
@[simp] theorem Device.storeSector_pioMode (D : Device) (bs : List Byte) : (D.storeSector bs).pioMode = D.pioMode := rfl
@[simp] theorem Device.storeSector_dmaMode (D : Device) (bs : List Byte) : (D.storeSector bs).dmaMode = D.dmaMode := rfl
@[simp] theorem Device.storeSector_pioBuf (D : Device) (bs : List Byte) : (D.storeSector bs).pioBuf = D.pioBuf := rfl
@[simp] theorem Device.storeSector_pioCursor (D : Device) (bs : List Byte) : (D.storeSector bs).pioCursor = D.pioCursor := rfl
@[simp] theorem Device.storeSector_dma (D : Device) (bs : List Byte) : (D.storeSector bs).dma = D.dma := rfl
@[simp] theorem Device.storeSector_transferActive (D : Device) (bs : List Byte) : (D.storeSector bs).transferActive = D.transferActive := rfl
@[simp] theorem Device.storeSector_geometry (D : Device) (bs : List Byte) : (D.storeSector bs).geometry = D.geometry := rfl
@[simp] theorem Device.storeSector_modes (D : Device) (bs : List Byte) : (D.storeSector bs).modes = D.modes := rfl

@[simp] theorem Device.defaultSettings_driver (D : Device) : (D.defaultSettings).driver = D.driver := rfl
@[simp] theorem Device.defaultSettings_pioMode (D : Device) : (D.defaultSettings).pioMode = 0 := rfl
@[simp] theorem Device.defaultSettings_dmaMode (D : Device) : (D.defaultSettings).dmaMode = none := rfl
@[simp] theorem Device.defaultSettings_pioBuf (D : Device) : (D.defaultSettings).pioBuf = D.pioBuf := rfl
@[simp] theorem Device.defaultSettings_pioCursor (D : Device) : (D.defaultSettings).pioCursor = D.pioCursor := rfl
@[simp] theorem Device.defaultSettings_dma (D : Device) : (D.defaultSettings).dma = D.dma := rfl
@[simp] theorem Device.defaultSettings_transferActive (D : Device) : (D.defaultSettings).transferActive = D.transferActive := rfl
@[simp] theorem Device.defaultSettings_geometry (D : Device) : (D.defaultSettings).geometry = D.driver.defaultGeometry := rfl
@[simp] theorem Device.defaultSettings_modes (D : Device) : (D.defaultSettings).modes = D.modes := rfl

@[simp] theorem Device.changeMedium_driver (D : Device) (m : Medium) : (D.changeMedium m).driver = { D.driver with medium := m } := rfl
@[simp] theorem Device.changeMedium_pioMode (D : Device) (m : Medium) : (D.changeMedium m).pioMode = D.pioMode := rfl
@[simp] theorem Device.changeMedium_dmaMode (D : Device) (m : Medium) : (D.changeMedium m).dmaMode = D.dmaMode := rfl
@[simp] theorem Device.changeMedium_pioBuf (D : Device) (m : Medium) : (D.changeMedium m).pioBuf = D.pioBuf := rfl
@[simp] theorem Device.changeMedium_pioCursor (D : Device) (m : Medium) : (D.changeMedium m).pioCursor = D.pioCursor := rfl
@[simp] theorem Device.changeMedium_dma (D : Device) (m : Medium) : (D.changeMedium m).dma = D.dma := rfl
@[simp] theorem Device.changeMedium_transferActive (D : Device) (m : Medium) : (D.changeMedium m).transferActive = D.transferActive := rfl
@[simp] theorem Device.changeMedium_geometry (D : Device) (m : Medium) : (D.changeMedium m).geometry = D.geometry := rfl
@[simp] theorem Device.changeMedium_modes (D : Device) (m : Medium) : (D.changeMedium m).modes = D.modes := rfl

@[simp] theorem Device.attach_driver (D : Device) (drv : Driver) : (D.attach drv).driver = drv := rfl
@[simp] theorem Device.attach_pioMode (D : Device) (drv : Driver) : (D.attach drv).pioMode = 0 := rfl
@[simp] theorem Device.attach_dmaMode (D : Device) (drv : Driver) : (D.attach drv).dmaMode = none := rfl
@[simp] theorem Device.attach_pioBuf (D : Device) (drv : Driver) : (D.attach drv).pioBuf = D.pioBuf := rfl
@[simp] theorem Device.attach_pioCursor (D : Device) (drv : Driver) : (D.attach drv).pioCursor = pioBufSize := rfl
@[simp] theorem Device.attach_dma (D : Device) (drv : Driver) : (D.attach drv).dma = .idle := rfl
@[simp] theorem Device.attach_transferActive (D : Device) (drv : Driver) : (D.attach drv).transferActive = false := rfl
@[simp] theorem Device.attach_geometry (D : Device) (drv : Driver) : (D.attach drv).geometry = drv.defaultGeometry := rfl
@[simp] theorem Device.attach_modes (D : Device) (drv : Driver) : (D.attach drv).modes = D.modes := rfl

/-! ### The idle window -/

@[simp] theorem DmaWindow.idle_startLba : DmaWindow.idle.startLba = 0 := rfl
@[simp] theorem DmaWindow.idle_endLba : DmaWindow.idle.endLba = 0 := rfl
@[simp] theorem DmaWindow.idle_curLba : DmaWindow.idle.curLba = 0 := rfl
@[simp] theorem DmaWindow.idle_isWrite : DmaWindow.idle.isWrite = false := rfl

end Sys2Proof.Machine
end

