-- ==== Sys2Proof/Laws/Ops.lean ====
section
/-! SUPPORT. For each shared operation, once, everything it can do. -/

namespace Sys2Proof.Machine

/-! ### The frame of a step -/

theorem whenEnabled_live {s : State} {k : Host.Outcome State Fault Refusal} (h : s.live) : whenEnabled s k = k := by
  simp [whenEnabled, h.1, h.2]

/-- An operation answers a next state only in a live state, and then it is the one its body answers. -/
theorem whenEnabled_next {s t : State} {k : Host.Outcome State Fault Refusal} :
    whenEnabled s k = .next t ↔ s.live ∧ k = .next t := by
  unfold whenEnabled State.live
  split <;> simp_all

/-- In a state with a recorded fault there is no step. -/
theorem whenEnabled_fault {s : State} {k : Host.Outcome State Fault Refusal} {r : FaultReason} (h : s.fault = some r) :
    whenEnabled s k = .fault (.faulted r) := by
  simp [whenEnabled, h]

/-- In a state with a recorded refusal there is no step. -/
theorem whenEnabled_refused {s : State} {k : Host.Outcome State Fault Refusal} {r : RefuseReason}
    (hf : s.fault = none) (h : s.refused = some r) : whenEnabled s k = .refused (.refusedState r) := by
  simp [whenEnabled, hf, h]

/-- An atomic operation completes in every live state. -/
theorem atomically_live {f : State → State} {s : State} (h : s.live) :
    atomically f s = .next ((f (s.setReply .none)).settle s) := whenEnabled_live h

/-- The one way an atomic operation answers a next state. -/
theorem atomically_next {f : State → State} {s t : State} :
    atomically f s = .next t ↔ s.live ∧ t = (f (s.setReply .none)).settle s := by
  unfold atomically
  rw [whenEnabled_next]
  simp [eq_comm]

/-- The one way an environment operation answers a next state. -/
theorem whenAllowed_next {allowed : Bool} {f : State → State} {s t : State} :
    whenAllowed allowed f s = .next t ↔ allowed = true ∧ s.live ∧ t = (f (s.setReply .none)).settle s := by
  unfold whenAllowed
  split
  · simp [atomically_next, *]
  · simp [whenEnabled_next, *]

/-- The edge events of a step: at most one event, decided by the line before and after. -/
theorem settle_eq (after before : State) :
    after.settle before =
      if before.irq = after.irq then after else after.emit (if after.irq then .irqRise else .irqFall) := by
  unfold State.settle
  cases before.irq <;> cases after.irq <;> simp

/-- Settling the interrupt line touches the trace alone. -/
theorem settle_cases (after before : State) :
    after.settle before = after ∨ ∃ e, after.settle before = after.emit e := by
  rw [settle_eq]
  split
  · exact .inl rfl
  · exact .inr ⟨_, rfl⟩

@[simp] theorem settle_regs (s b : State) : (s.settle b).regs = s.regs := by
  rcases settle_cases s b with h | ⟨e, h⟩ <;> simp [h]
@[simp] theorem settle_intPending (s b : State) : (s.settle b).intPending = s.intPending := by
  rcases settle_cases s b with h | ⟨e, h⟩ <;> simp [h]
@[simp] theorem settle_cur (s b : State) : (s.settle b).cur = s.cur := by
  rcases settle_cases s b with h | ⟨e, h⟩ <;> simp [h]
@[simp] theorem settle_dev0 (s b : State) : (s.settle b).dev0 = s.dev0 := by
  rcases settle_cases s b with h | ⟨e, h⟩ <;> simp [h]
@[simp] theorem settle_dev1 (s b : State) : (s.settle b).dev1 = s.dev1 := by
  rcases settle_cases s b with h | ⟨e, h⟩ <;> simp [h]
@[simp] theorem settle_dev (s b : State) (d : Slot) : (s.settle b).dev d = s.dev d := by
  cases d <;> simp
@[simp] theorem settle_fault (s b : State) : (s.settle b).fault = s.fault := by
  rcases settle_cases s b with h | ⟨e, h⟩ <;> simp [h]
@[simp] theorem settle_refused (s b : State) : (s.settle b).refused = s.refused := by
  rcases settle_cases s b with h | ⟨e, h⟩ <;> simp [h]
@[simp] theorem settle_unsupportedAborts (s b : State) : (s.settle b).unsupportedAborts = s.unsupportedAborts := by
  rcases settle_cases s b with h | ⟨e, h⟩ <;> simp [h]
@[simp] theorem settle_inbox (s b : State) : (s.settle b).inbox = s.inbox := by
  rcases settle_cases s b with h | ⟨e, h⟩ <;> simp [h]
@[simp] theorem settle_reply (s b : State) : (s.settle b).reply = s.reply := by
  rcases settle_cases s b with h | ⟨e, h⟩ <;> simp [h]
@[simp] theorem settle_answers (s b : State) : (s.settle b).answers = s.answers := by
  rcases settle_cases s b with h | ⟨e, h⟩ <;> simp [h]
@[simp] theorem settle_backendCalls (s b : State) : (s.settle b).backendCalls = s.backendCalls := by
  rcases settle_cases s b with h | ⟨e, h⟩ <;> simp [h]
@[simp] theorem settle_draws (s b : State) : (s.settle b).draws = s.draws := by
  rcases settle_cases s b with h | ⟨e, h⟩ <;> simp [h]

/-! ### The command engine -/

theorem openPhase_eq_some {s : State} {p : Proto} {c : Command} :
    s.openPhase p = some c ↔ s.cur = some c ∧ c.proto = p := by
  unfold State.openPhase
  cases s.cur with
  | none => simp
  | some c' =>
    constructor
    · intro h
      simp only at h
      split at h <;> simp_all
    · rintro ⟨h, hp⟩
      simp_all

theorem openPhase_eq_none {s : State} {p : Proto} :
    s.openPhase p = none ↔ ∀ c, s.cur = some c → c.proto ≠ p := by
  unfold State.openPhase
  cases s.cur with
  | none => simp
  | some c' => simp

@[simp] theorem enterDataPhase_regs (c : Command) (b : Bool) (s : State) :
    (enterDataPhase c b s).regs = { s.regs with error := errNone, status := stDrq } := by cases b <;> rfl
@[simp] theorem enterDataPhase_cur (c : Command) (b : Bool) (s : State) :
    (enterDataPhase c b s).cur = some { c with phase := .dataPhase } := by cases b <;> rfl
@[simp] theorem enterDataPhase_intPending (c : Command) (b : Bool) (s : State) :
    (enterDataPhase c b s).intPending = (b || s.intPending) := by cases b <;> rfl
@[simp] theorem enterDataPhase_dev (c : Command) (b : Bool) (s : State) (d : Slot) :
    (enterDataPhase c b s).dev d = s.dev d := by cases b <;> cases d <;> rfl
@[simp] theorem enterDataPhase_trace (c : Command) (b : Bool) (s : State) :
    (enterDataPhase c b s).trace = s.trace := by cases b <;> rfl

@[simp] theorem finish_regs (c : Command) (r : Completion) (s : State) : (finish c r s).regs = s.regs := rfl
@[simp] theorem finish_cur (c : Command) (r : Completion) (s : State) : (finish c r s).cur = none := rfl
@[simp] theorem finish_intPending (c : Command) (r : Completion) (s : State) :
    (finish c r s).intPending = s.intPending := rfl
@[simp] theorem finish_dev (c : Command) (r : Completion) (s : State) (d : Slot) :
    (finish c r s).dev d = s.dev d := by cases d <;> rfl
@[simp] theorem finish_trace (c : Command) (r : Completion) (s : State) :
    (finish c r s).trace = s.trace ++ [.cmdEnd c.opcode c.d r] := rfl

@[simp] theorem complete_regs (c : Command) (ok : Bool) (s : State) :
    (complete c ok s).regs = completionRegs s.regs ok := rfl
@[simp] theorem complete_cur (c : Command) (ok : Bool) (s : State) : (complete c ok s).cur = none := rfl
@[simp] theorem complete_intPending (c : Command) (ok : Bool) (s : State) : (complete c ok s).intPending = true := rfl
@[simp] theorem complete_dev (c : Command) (ok : Bool) (s : State) (d : Slot) :
    (complete c ok s).dev d = s.dev d := by cases d <;> rfl
@[simp] theorem complete_trace (c : Command) (ok : Bool) (s : State) :
    (complete c ok s).trace = s.trace ++ [.cmdEnd c.opcode c.d (completionOf ok)] := rfl

@[simp] theorem completionRegs_status (r : Regs) (ok : Bool) :
    (completionRegs r ok).status = if ok then stOk else stErr := by cases ok <;> rfl
@[simp] theorem completionRegs_error (r : Regs) (ok : Bool) :
    (completionRegs r ok).error = if ok then errNone else errAbrt := by cases ok <;> rfl
@[simp] theorem completionRegs_devCtl (r : Regs) (ok : Bool) : (completionRegs r ok).devCtl = r.devCtl := by
  cases ok <;> rfl

/-- A Command write that answers a next state: the state is live; it faults in soft reset, it faults with a command in
flight, or it latches the byte, acknowledges the interrupt and runs the command. -/
theorem commandWrite_next {v : Byte} {run : State → State} {s t : State} (h : commandWrite v run s = .next t) :
    s.live ∧
      ((s.srst = true ∧ t = ((s.setReply .none).raiseFault .hostWriteDuringReset).settle s) ∨
        (s.srst = false ∧ s.cur.isSome = true ∧
          t = ((s.setReply .none).raiseFault .commandWhileInFlight).settle s) ∨
        (s.srst = false ∧ s.cur = none ∧
          t = (run (((s.setReply .none).setRegs { s.regs with command := v }).setInt false)).settle s)) := by
  unfold commandWrite at h
  obtain ⟨hl, ht⟩ := atomically_next.mp h
  refine ⟨hl, ?_⟩
  have hs : (s.setReply .none).srst = s.srst := rfl
  by_cases h1 : s.srst = true
  · exact .inl ⟨h1, by simpa [hs, h1] using ht⟩
  · have h1' : s.srst = false := by simpa using h1
    cases hc : s.cur with
    | some c => exact .inr (.inl ⟨h1', rfl, by simpa [hs, h1', hc] using ht⟩)
    | none => exact .inr (.inr ⟨h1', rfl, by simpa [hs, h1', hc] using ht⟩)

/-- From an idle state a Command write runs its command. -/
theorem commandWrite_idle {v : Byte} {run : State → State} {s : State} (h : s.idle) :
    commandWrite v run s =
      .next ((run (((s.setReply .none).setRegs { s.regs with command := v }).setInt false)).settle s) := by
  obtain ⟨hl, hs, hc⟩ := h
  unfold commandWrite
  rw [atomically_live hl]
  have hs' : (s.setReply .none).srst = false := hs
  simp [hs', hc]

/-! ### The DMA engine -/

/-- A window check passes exactly on an armed window of the current DMA command, in its direction. -/
theorem checkWindow_eq_none {d : Slot} {w : Bool} {s : State} :
    checkWindow d w s = none ↔
      ∃ c, s.cur = some c ∧ c.proto = .dma ∧ c.d = d ∧ (s.dev d).transferActive = true ∧ (s.dev d).dma.isWrite = w := by
  unfold checkWindow
  constructor
  · intro h
    split at h
    · simp at h
    · rename_i c hc
      obtain ⟨hcur, hp⟩ := openPhase_eq_some.mp hc
      split at h
      · split at h
        · exact ⟨c, hcur, hp, by simp_all, by simp_all, by simp_all⟩
        · simp at h
      · simp at h
  · rintro ⟨c, hcur, hp, hd, ha, hw⟩
    rw [openPhase_eq_some.mpr ⟨hcur, hp⟩]
    simp [hd, ha, hw]

/-- A sector read: a success asks the backend once and advances the window; a failure changes no device. -/
theorem readDmaSector_cases (d : Slot) (s : State) :
    (∃ s', (s' = s.afterBackendCall) ∧ s.backendAnswer = true ∧
        (s.dev d).driver.readChecks (s.dev d).sectorAddress (s.dev d).driver.sectorSize = true ∧
        readDmaSector d s = (true, (s'.emit (.backendRead d (s.dev d).sectorAddress (s.dev d).driver.sectorSize .ok)).setDev d
          (s.dev d).advance)) ∨
      (∃ s', (s' = s ∨ s' = s.afterBackendCall) ∧
        readDmaSector d s = (false, s'.emit (.backendRead d (s.dev d).sectorAddress (s.dev d).driver.sectorSize .fail))) := by
  unfold readDmaSector
  dsimp only
  split
  · split
    · exact .inl ⟨_, rfl, by simp_all, by assumption, rfl⟩
    · exact .inr ⟨_, .inr rfl, rfl⟩
  · exact .inr ⟨_, .inl rfl, rfl⟩

/-- A sector write: a success stores the bytes and advances; a backend failure leaves draws; a failed check leaves all. -/
theorem writeDmaSector_cases (d : Slot) (buf : List Byte) (s : State) :
    ((s.dev d).driver.writeChecks (s.dev d).sectorAddress (s.dev d).driver.sectorSize = true ∧ s.backendAnswer = true ∧
        writeDmaSector d buf s = (true, (s.afterBackendCall.emit
          (.backendWrite d (s.dev d).sectorAddress (s.dev d).driver.sectorSize .ok)).setDev d
          ((s.dev d).storeSector buf).advance)) ∨
      ((s.dev d).driver.writeChecks (s.dev d).sectorAddress (s.dev d).driver.sectorSize = true ∧ s.backendAnswer = false ∧
        writeDmaSector d buf s = (false, ((s.afterBackendCall.emit
          (.backendWrite d (s.dev d).sectorAddress (s.dev d).driver.sectorSize .fail)).setDev d
          ((s.dev d).storeSector (s.drawBytes (s.dev d).driver.sectorSize))).skipDraws (s.dev d).driver.sectorSize)) ∨
      ((s.dev d).driver.writeChecks (s.dev d).sectorAddress (s.dev d).driver.sectorSize = false ∧
        writeDmaSector d buf s =
          (false, s.emit (.backendWrite d (s.dev d).sectorAddress (s.dev d).driver.sectorSize .fail))) := by
  unfold writeDmaSector
  dsimp only
  split
  · split
    · exact .inl ⟨by assumption, by simp_all, rfl⟩
    · exact .inr (.inl ⟨by assumption, by simp_all, rfl⟩)
  · exact .inr (.inr ⟨by simp_all, rfl⟩)

/-- The end of the current command's window and of the command. -/
theorem dmaComplete_of_cur {s : State} {c : Command} (h : s.cur = some c) (ok : Bool) :
    dmaComplete ok s = complete c ok (s.setDev c.d (s.dev c.d).endDma) := by
  simp [dmaComplete, h]

/-- A window that `BeginDMA` arms: a medium, a start inside the addressing rules, and a range inside the capacity and the
accessible LBAs (44_dma_engine R371). -/
theorem armedWindow_eq_some {D : Device} {w : CommandWord} {isWrite : Bool} {win : DmaWindow} :
    D.armedWindow w isWrite = some win ↔
      D.driver.medium.present = true ∧ ∃ start, w.startLba D.geometry = some start ∧
        start + w.count ≤ D.driver.medium.capacity.toNat ∧ D.driver.rangeAccessible start w.count = true ∧
        win = { startLba := BitVec.ofNat 32 start, endLba := BitVec.ofNat 32 (start + w.count)
                curLba := BitVec.ofNat 32 start, isWrite := isWrite } := by
  unfold Device.armedWindow
  split
  · rename_i hp
    split
    · rename_i hst; simp [hst]
    · rename_i start hst
      split
      · rename_i hlt
        simp [hst, hp]
        omega
      · split
        · rename_i hle hacc
          constructor
          · intro h
            exact ⟨hp, start, hst, by omega, hacc, (Option.some.inj h).symm⟩
          · rintro ⟨-, start', hst', -, -, hwin⟩
            obtain rfl : start = start' := Option.some.inj (hst.symm.trans hst')
            rw [hwin]
        · rename_i hle hacc
          simp [hst, hp, hacc]
  · rename_i hp; simp [hp]

/-! ### IDENTIFY -/

/-- What an identify record is computed from does not hold the buffer's bytes (10_state R44). -/
@[simp] theorem identifyKey_pioBuf (D : Device) (b : Block) :
    ({ D with pioBuf := b } : Device).identifyKey = D.identifyKey := rfl

/-! ### SET FEATURES -/

/-- A device accepts the PIO modes of its slot's set, unless its driver is Null. -/
theorem acceptsPio_iff {D : Device} {m : BitVec 3} :
    D.acceptsPio m = true ↔ D.driver.kind ≠ .null ∧ D.modes.acceptsPio m = true := by
  simp [Device.acceptsPio]

/-- A device accepts the DMA modes of its slot's sets, unless its driver is Null. -/
theorem acceptsDma_iff {D : Device} {k : DmaKind} {m : BitVec 3} :
    D.acceptsDma k m = true ↔ D.driver.kind ≠ .null ∧ D.modes.acceptsDma k m = true := by
  simp [Device.acceptsDma]

/-- All that SET FEATURES can do: fail with one diagnostic, or, with subcode 0x03 and a driver that is not Null, select one
mode of one kind that the slot's sets hold. -/
theorem setFeaturesStep_cases (c : Command) (s : State) :
    (∃ m, setFeaturesStep c s = (false, s.diag m)) ∨
      (c.feat = 0x03 ∧ (s.dev c.d).driver.kind ≠ .null ∧
        ((∃ m, decodeMode s.regs.commandWord.sc = .pio m ∧ (s.dev c.d).modes.acceptsPio m = true ∧
            setFeaturesStep c s = (true, s.setDev c.d { s.dev c.d with pioMode := m })) ∨
          ∃ k m, decodeMode s.regs.commandWord.sc = .dma k m ∧ (s.dev c.d).modes.acceptsDma k m = true ∧
            setFeaturesStep c s = (true, s.setDev c.d { s.dev c.d with dmaMode := some (k, m) }))) := by
  unfold setFeaturesStep
  dsimp only
  split
  · rename_i hfeat
    split
    · rename_i m hm
      split
      · rename_i h
        obtain ⟨hk, hacc⟩ := acceptsPio_iff.mp h
        exact .inr ⟨hfeat, hk, .inl ⟨m, hm, hacc, rfl⟩⟩
      · exact .inl ⟨_, rfl⟩
    · rename_i k m hm
      split
      · rename_i h
        obtain ⟨hk, hacc⟩ := acceptsDma_iff.mp h
        exact .inr ⟨hfeat, hk, .inr ⟨k, m, hm, hacc, rfl⟩⟩
      · exact .inl ⟨_, rfl⟩
    · exact .inl ⟨_, rfl⟩
  · exact .inl ⟨_, rfl⟩

/-- SET FEATURES fails on a Null driver, whatever its operands (40_driver_capability R166; log 24). -/
theorem setFeaturesStep_null {c : Command} {s : State} (h : (s.dev c.d).driver.kind = .null) :
    ∃ m, setFeaturesStep c s = (false, s.diag m) := by
  obtain hm | ⟨-, hk, -⟩ := setFeaturesStep_cases c s
  · exact hm
  · exact absurd h hk

end Sys2Proof.Machine
end

