-- ==== Sys2Proof/Laws/PerInstr.lean ====
section
/-! SUPPORT. A fact about every operation as syntax, one lemma per constructor: the code of its request fits the format. -/

namespace Sys2Proof.Laws

/-- The width of a format's code in bits (30_encoding R100, R102 to R104). -/
def codeBits (format : Format) : Nat :=
  match format with
  | .port => 8
  | .cmd => 8
  | .dmaif => 2
  | .env => 1

/-- The code of the operation's request has no bit above the width of its format's code. -/
def EncodeFits.Statement (i : Instr) : Prop := (encode i).code.toNat < 2 ^ codeBits (encode i).format

theorem EncodeFits.rdDataB : EncodeFits.Statement .rdDataB := BitVec.isLt _
theorem EncodeFits.rdDataW : EncodeFits.Statement .rdDataW := BitVec.isLt _
theorem EncodeFits.rdDataD : EncodeFits.Statement .rdDataD := BitVec.isLt _
theorem EncodeFits.wrDataB (v : Byte) : EncodeFits.Statement (.wrDataB v) := BitVec.isLt _
theorem EncodeFits.wrDataW (v : BitVec 16) : EncodeFits.Statement (.wrDataW v) := BitVec.isLt _
theorem EncodeFits.wrDataD (v : BitVec 32) : EncodeFits.Statement (.wrDataD v) := BitVec.isLt _
theorem EncodeFits.rdError : EncodeFits.Statement .rdError := BitVec.isLt _
theorem EncodeFits.rdSectorCount : EncodeFits.Statement .rdSectorCount := BitVec.isLt _
theorem EncodeFits.rdSectorNumber : EncodeFits.Statement .rdSectorNumber := BitVec.isLt _
theorem EncodeFits.rdCylLow : EncodeFits.Statement .rdCylLow := BitVec.isLt _
theorem EncodeFits.rdCylHigh : EncodeFits.Statement .rdCylHigh := BitVec.isLt _
theorem EncodeFits.rdDeviceHead : EncodeFits.Statement .rdDeviceHead := BitVec.isLt _
theorem EncodeFits.rdStatus : EncodeFits.Statement .rdStatus := BitVec.isLt _
theorem EncodeFits.wrFeatures (v : Byte) : EncodeFits.Statement (.wrFeatures v) := BitVec.isLt _
theorem EncodeFits.wrSectorCount (v : Byte) : EncodeFits.Statement (.wrSectorCount v) := BitVec.isLt _
theorem EncodeFits.wrSectorNumber (v : Byte) : EncodeFits.Statement (.wrSectorNumber v) := BitVec.isLt _
theorem EncodeFits.wrCylLow (v : Byte) : EncodeFits.Statement (.wrCylLow v) := BitVec.isLt _
theorem EncodeFits.wrCylHigh (v : Byte) : EncodeFits.Statement (.wrCylHigh v) := BitVec.isLt _
theorem EncodeFits.wrDeviceHead (v : Byte) : EncodeFits.Statement (.wrDeviceHead v) := BitVec.isLt _
theorem EncodeFits.wrCommand (v : Byte) : EncodeFits.Statement (.wrCommand v) := BitVec.isLt _
theorem EncodeFits.rdAltStatus : EncodeFits.Statement .rdAltStatus := BitVec.isLt _
theorem EncodeFits.wrDevCtl (v : Byte) : EncodeFits.Statement (.wrDevCtl v) := BitVec.isLt _
theorem EncodeFits.refusedWidth (blk : BitVec 1) (dir : BitVec 1) (zero : BitVec 1) (off : BitVec 3) (n : BitVec 3) : EncodeFits.Statement (.refusedWidth blk dir zero off n) :=
  BitVec.isLt _
theorem EncodeFits.refusedAccess (p : PortCode) : EncodeFits.Statement (.refusedAccess p) := BitVec.isLt _
theorem EncodeFits.identifyDevice : EncodeFits.Statement .identifyDevice := BitVec.isLt _
theorem EncodeFits.identifyPacketDevice : EncodeFits.Statement .identifyPacketDevice := BitVec.isLt _
theorem EncodeFits.initializeDeviceParameters : EncodeFits.Statement .initializeDeviceParameters := BitVec.isLt _
theorem EncodeFits.setFeatures : EncodeFits.Statement .setFeatures := BitVec.isLt _
theorem EncodeFits.securityUnlock : EncodeFits.Statement .securityUnlock := BitVec.isLt _
theorem EncodeFits.readDma : EncodeFits.Statement .readDma := BitVec.isLt _
theorem EncodeFits.writeDma : EncodeFits.Statement .writeDma := BitVec.isLt _
theorem EncodeFits.packet : EncodeFits.Statement .packet := BitVec.isLt _
theorem EncodeFits.nop : EncodeFits.Statement .nop := BitVec.isLt _
theorem EncodeFits.deviceReset : EncodeFits.Statement .deviceReset := BitVec.isLt _
theorem EncodeFits.readSectors : EncodeFits.Statement .readSectors := BitVec.isLt _
theorem EncodeFits.readSectorsWithoutRetry : EncodeFits.Statement .readSectorsWithoutRetry := BitVec.isLt _
theorem EncodeFits.writeSectors : EncodeFits.Statement .writeSectors := BitVec.isLt _
theorem EncodeFits.writeSectorsWithoutRetry : EncodeFits.Statement .writeSectorsWithoutRetry := BitVec.isLt _
theorem EncodeFits.readVerifySectors : EncodeFits.Statement .readVerifySectors := BitVec.isLt _
theorem EncodeFits.readVerifySectorsWithoutRetry : EncodeFits.Statement .readVerifySectorsWithoutRetry := BitVec.isLt _
theorem EncodeFits.seek : EncodeFits.Statement .seek := BitVec.isLt _
theorem EncodeFits.executeDeviceDiagnostic : EncodeFits.Statement .executeDeviceDiagnostic := BitVec.isLt _
theorem EncodeFits.downloadMicrocode : EncodeFits.Statement .downloadMicrocode := BitVec.isLt _
theorem EncodeFits.service : EncodeFits.Statement .service := BitVec.isLt _
theorem EncodeFits.smart : EncodeFits.Statement .smart := BitVec.isLt _
theorem EncodeFits.readMultiple : EncodeFits.Statement .readMultiple := BitVec.isLt _
theorem EncodeFits.writeMultiple : EncodeFits.Statement .writeMultiple := BitVec.isLt _
theorem EncodeFits.setMultipleMode : EncodeFits.Statement .setMultipleMode := BitVec.isLt _
theorem EncodeFits.readDmaQueued : EncodeFits.Statement .readDmaQueued := BitVec.isLt _
theorem EncodeFits.readDmaWithoutRetry : EncodeFits.Statement .readDmaWithoutRetry := BitVec.isLt _
theorem EncodeFits.writeDmaWithoutRetry : EncodeFits.Statement .writeDmaWithoutRetry := BitVec.isLt _
theorem EncodeFits.writeDmaQueued : EncodeFits.Statement .writeDmaQueued := BitVec.isLt _
theorem EncodeFits.mediaLock : EncodeFits.Statement .mediaLock := BitVec.isLt _
theorem EncodeFits.mediaUnlock : EncodeFits.Statement .mediaUnlock := BitVec.isLt _
theorem EncodeFits.standbyImmediate : EncodeFits.Statement .standbyImmediate := BitVec.isLt _
theorem EncodeFits.idleImmediate : EncodeFits.Statement .idleImmediate := BitVec.isLt _
theorem EncodeFits.standby : EncodeFits.Statement .standby := BitVec.isLt _
theorem EncodeFits.idle : EncodeFits.Statement .idle := BitVec.isLt _
theorem EncodeFits.readBuffer : EncodeFits.Statement .readBuffer := BitVec.isLt _
theorem EncodeFits.checkPowerMode : EncodeFits.Statement .checkPowerMode := BitVec.isLt _
theorem EncodeFits.sleep : EncodeFits.Statement .sleep := BitVec.isLt _
theorem EncodeFits.flushCache : EncodeFits.Statement .flushCache := BitVec.isLt _
theorem EncodeFits.writeBuffer : EncodeFits.Statement .writeBuffer := BitVec.isLt _
theorem EncodeFits.mediaEject : EncodeFits.Statement .mediaEject := BitVec.isLt _
theorem EncodeFits.securitySetPassword : EncodeFits.Statement .securitySetPassword := BitVec.isLt _
theorem EncodeFits.securityErasePrepare : EncodeFits.Statement .securityErasePrepare := BitVec.isLt _
theorem EncodeFits.securityEraseUnit : EncodeFits.Statement .securityEraseUnit := BitVec.isLt _
theorem EncodeFits.securityFreezeLock : EncodeFits.Statement .securityFreezeLock := BitVec.isLt _
theorem EncodeFits.securityDisablePassword : EncodeFits.Statement .securityDisablePassword := BitVec.isLt _
theorem EncodeFits.readNativeMaxAddress : EncodeFits.Statement .readNativeMaxAddress := BitVec.isLt _
theorem EncodeFits.setMaxAddress : EncodeFits.Statement .setMaxAddress := BitVec.isLt _
theorem EncodeFits.unsupportedOther (v : Byte) : EncodeFits.Statement (.unsupportedOther v) := BitVec.isLt _
theorem EncodeFits.dmaReadSector (d : Slot) : EncodeFits.Statement (.dmaReadSector d) :=
  (by decide : (0 : Byte).toNat < 2 ^ 2)
theorem EncodeFits.dmaWriteSector (d : Slot) (buf : List Byte) : EncodeFits.Statement (.dmaWriteSector d buf) :=
  (by decide : (1 : Byte).toNat < 2 ^ 2)
theorem EncodeFits.dmaAbort (d : Slot) : EncodeFits.Statement (.dmaAbort d) := (by decide : (2 : Byte).toNat < 2 ^ 2)
theorem EncodeFits.dmaQuery (d : Slot) : EncodeFits.Statement (.dmaQuery d) := (by decide : (3 : Byte).toNat < 2 ^ 2)
theorem EncodeFits.mediumChange (d : Slot) (present : Bool) (capacity : Lba) (img : Memory) : EncodeFits.Statement (.mediumChange d present capacity img) :=
  (by decide : (0 : Byte).toNat < 2 ^ 1)
theorem EncodeFits.attach (d : Slot) (drv : Driver) : EncodeFits.Statement (.attach d drv) :=
  (by decide : (1 : Byte).toNat < 2 ^ 1)

end Sys2Proof.Laws
end

