-- ==== Sys2Proof/Tests/Slice0.lean ====
section
/-! SUPPORT. Tests: ill-formed terms refused, every constructor decoded from a written-out code, vectors of
95_test_vectors on single steps, and for each obligation with hypotheses a state and operands that meet them. -/

namespace Sys2Proof.Tests

open Sys2Proof Sys2Proof.Machine

/-! ### Helpers -/

/-- The state after an operation, if it answers a next state. -/
def after (i : Instr) (s : State) : Option State :=
  match exec i s with
  | .next t => some t
  | _ => none

/-- The state after operations one by one. -/
def afterAll (is : List Instr) (s : State) : Option State := execAll is s

/-- The DVD of CFG-A (95_test_vectors), its image cut down to three bytes. -/
def dvd : Driver :=
  Driver.dvd 1 .bytes12 { present := true, capacity := 1000, img := [(204800, 235), (206848, 24), (208896, 64)] }
    (.const (.listed [])) (.const (.listed [(0, 0x85), (1, 0x80)]))

/-- The hard disk of CFG-H (95_test_vectors), with sectors of 4 bytes (40_driver_capability R168 leaves the size open). -/
def hdd : Driver :=
  { id := 1, kind := .hdd, supportsPacket := false, supportsOverlap := false, overlapEnabled := false
    sectorSize := 4, packetCmdSize := .bytes12, writable := true
    medium := { present := true, capacity := 100000, img := [(28, 11), (29, 12), (33, 13)] }
    defaultGeometry := none, reserved := .const (.listed [])
    identify := .const (.listed [(0, 0x40)]), identifyPacket := .const .absent
    unlock := .const (.listed [[(0, 0x01)]])
    setParams := .const (.listed [{ headsMin := 1, headsMax := 16, sptMin := 1, sptMax := 255 }]) }

/-- Mode sets of CFG-A and CFG-H. -/
def modes : ModeSets := { pio := 0x1F, swdma := 0x07, mwdma := 0x07, udma := 0x07 }

/-- A configuration with one driver beside a Null slave. -/
def config (drv : Driver) : Configuration :=
  { master := drv, slave := Driver.null 2, masterModes := modes, slaveModes := modes, unsupportedAborts := false }

/-- CFG-A at power-on. -/
def onA : State := State.powerOn (config dvd)

/-- CFG-H at power-on. -/
def onH : State := State.powerOn (config hdd)

/-- A state with a command current on device 0. -/
def current (s : State) (opcode : Byte) (proto : Proto) : State :=
  { s with
    cur := some { opcode := opcode, proto := proto, phase := .dataPhase, d := .master, feat := 0 }
    regs := { s.regs with status := 0x58, error := 0x00 } }

/-- IDENTIFY DEVICE with the cursor at `k`, and the last four buffer bytes 1 to 4. -/
def pioInAt (k : Nat) : State :=
  { current onH 0xEC .pioIn with
    dev0 := { onH.dev0 with pioCursor := k, pioBuf := [(508, 1), (509, 2), (510, 3), (511, 4)] } }

/-- SECURITY UNLOCK with the cursor at `k`, and the first buffer byte 1. -/
def pioOutAt (k : Nat) : State :=
  { current onH 0xF2 .pioOut with dev0 := { onH.dev0 with pioCursor := k, pioBuf := [(0, 1)] } }

/-- A DMA window on sectors 7 and 8 of device 0, with the current LBA at `lba` and the backend's next answers. -/
def dmaAt (isWrite : Bool) (lba : Lba) (answers : List Bool) : State :=
  { current onH (if isWrite then 0xCA else 0xC8) .dma with
    dev0 := { onH.dev0 with
      dma := { startLba := 7, endLba := 9, curLba := lba, isWrite := isWrite }, transferActive := true }
    answers := answers }

/-- A state with other task-file registers. -/
def withRegs (s : State) (f : Regs → Regs) : State := { s with regs := f s.regs }

/-- Soft reset held. -/
def held (s : State) : State := withRegs s fun r => { r with devCtl := 0x04, status := 0x80 }

/-! ### WellFormed refuses -/

theorem test_wf_width_1 : (Instr.refusedWidth 0 0 0 0 1).wellFormed = false := by decide
theorem test_wf_width_2 : (Instr.refusedWidth 0 0 0 0 2).wellFormed = false := by decide
theorem test_wf_width_4 : (Instr.refusedWidth 0 0 0 0 4).wellFormed = false := by decide
theorem test_wf_access_width_code_3 :
    (Instr.refusedAccess { blk := 0, dir := 0, nCode := 3, zero := 0, off := 1 }).wellFormed = false := by decide
theorem test_wf_access_named :
    (Instr.refusedAccess { blk := 0, dir := 0, nCode := 0, zero := 0, off := 7 }).wellFormed = false := by decide
theorem test_wf_unsupported_named : (Instr.unsupportedOther 0xEC).wellFormed = false := by decide
theorem test_wf_image_unsorted : (Instr.mediumChange .master true 4 [(5, 1), (4, 1)]).wellFormed = false := by decide
theorem test_wf_image_zero_cell : (Instr.mediumChange .master true 4 [(5, 0)]).wellFormed = false := by decide
theorem test_wf_attach_capacity_without_medium :
    (Instr.attach .master { hdd with medium := { present := false, capacity := 1, img := [] } }).wellFormed = false := by
  decide
theorem test_wf_attach_long_record :
    (Instr.attach .master { hdd with identify := .const (.listed [(512, 1)]) }).wellFormed = false := by decide
theorem test_wf_attach_packet_record_without_packet :
    (Instr.attach .master { hdd with identifyPacket := .const (.listed []) }).wellFormed = false := by decide
theorem test_wf_attach_bad_geometry :
    (Instr.attach .master { hdd with defaultGeometry := some { heads := 17, spt := 63 } }).wellFormed = false := by decide
theorem test_wf_attach_writable_dvd : (Instr.attach .master { dvd with writable := true }).wellFormed = false := by decide
theorem test_wf_attach_null_with_medium :
    (Instr.attach .master { Driver.null 3 with medium := dvd.medium }).wellFormed = false := by decide
theorem test_wf_accepts : (Instr.attach .master hdd).wellFormed = true
    ∧ (Instr.attach .slave dvd).wellFormed = true ∧ (Instr.refusedWidth 1 1 1 7 3).wellFormed = true
    ∧ (Instr.unsupportedOther 0xFF).wellFormed = true
    ∧ (Instr.mediumChange .master true 4 [(4, 1), (5, 1)]).wellFormed = true := by decide

/-! ### Decode refuses by name -/

theorem test_decode_value_too_wide :
    decode (Request.write 0x41 0x100) = .error .valueTooWide ∧ decode (Request.write 0x50 0x10000) = .error .valueTooWide := by
  decide
theorem test_decode_width_has_code :
    decode { format := .port, code := 0x30, operands := { Operands.zero with width := 2 } } = .error .widthHasCode := by
  decide
theorem test_decode_code_too_wide :
    decode (Request.plain .dmaif 0x04) = .error .codeTooWide ∧ decode (Request.plain .env 0x02) = .error .codeTooWide := by
  decide
theorem test_decode_bad_image :
    decode { format := .env, code := 0, operands := { Operands.zero with img := [(1, 0)] } } = .error .imageNotCanonical := by
  decide
theorem test_decode_bad_record :
    decode { format := .env, code := 1, operands := { Operands.zero with drv := { dvd with writable := true } } }
      = .error .driverOutOfContract := by decide

/-! ### Every constructor from a code written out from 30_encoding -/

/-- Reads, `blk:dir:n_code:0:off` (30_encoding R100, R123). -/
theorem test_decode_reads :
    ([0b00000000, 0b00010000, 0b00100000, 0b00000001, 0b00000010, 0b00000011, 0b00000100, 0b00000101, 0b00000110,
      0b00000111, 0b10000110] : List Byte).map (fun c => decode (.plain .port c))
    = [.ok .rdDataB, .ok .rdDataW, .ok .rdDataD, .ok .rdError, .ok .rdSectorCount, .ok .rdSectorNumber, .ok .rdCylLow,
       .ok .rdCylHigh, .ok .rdDeviceHead, .ok .rdStatus, .ok .rdAltStatus] := by decide

/-- Writes, `blk:dir:n_code:0:off` with their value (30_encoding R100, R123). -/
theorem test_decode_writes :
    ([(0b01000000, 0xAB), (0b01010000, 0xABCD), (0b01100000, 0x89ABCDEF), (0b01000001, 0x01), (0b01000010, 0x02),
      (0b01000011, 0x03), (0b01000100, 0x04), (0b01000101, 0x05), (0b01000110, 0x06), (0b01000111, 0xEC),
      (0b11000110, 0x02)] : List (Byte × BitVec 32)).map (fun p => decode (.write p.1 p.2))
    = [.ok (.wrDataB 0xAB), .ok (.wrDataW 0xABCD), .ok (.wrDataD 0x89ABCDEF), .ok (.wrFeatures 0x01),
       .ok (.wrSectorCount 0x02), .ok (.wrSectorNumber 0x03), .ok (.wrCylLow 0x04), .ok (.wrCylHigh 0x05),
       .ok (.wrDeviceHead 0x06), .ok (.wrCommand 0xEC), .ok (.wrDevCtl 0x02)] := by decide

/-- Refused accesses: a width of 3 at Status, a word write of Features, control offset 7, bit 3 set (30_encoding R124). -/
theorem test_decode_refused :
    decode { format := .port, code := 0b00110111, operands := { Operands.zero with width := 3 } }
        = .ok (.refusedWidth 0 0 0 7 3)
    ∧ decode (.plain .port 0b01010001) = .ok (.refusedAccess { blk := 0, dir := 1, nCode := 1, zero := 0, off := 1 })
    ∧ decode (.plain .port 0b10000111) = .ok (.refusedAccess { blk := 1, dir := 0, nCode := 0, zero := 0, off := 7 })
    ∧ decode (.plain .port 0b00001000) = .ok (.refusedAccess { blk := 0, dir := 0, nCode := 0, zero := 1, off := 0 }) := by
  decide

/-- The admitted command bytes and PACKET (30_encoding R120, R121). -/
theorem test_decode_admitted :
    ([0xEC, 0xA1, 0x91, 0xEF, 0xF2, 0xC8, 0xCA, 0xA0] : List Byte).map decodeCommand
    = [.identifyDevice, .identifyPacketDevice, .initializeDeviceParameters, .setFeatures, .securityUnlock, .readDma,
       .writeDma, .packet] := by decide

/-- The unsupported command bytes that 30_encoding R122 names, first half. -/
theorem test_decode_unsupported_low :
    ([0x00, 0x08, 0x20, 0x21, 0x30, 0x31, 0x40, 0x41, 0x70, 0x90, 0x92, 0xA2, 0xB0, 0xC4, 0xC5, 0xC6, 0xC7, 0xC9, 0xCB,
      0xCC] : List Byte).map decodeCommand
    = [.nop, .deviceReset, .readSectors, .readSectorsWithoutRetry, .writeSectors, .writeSectorsWithoutRetry,
       .readVerifySectors, .readVerifySectorsWithoutRetry, .seek, .executeDeviceDiagnostic, .downloadMicrocode, .service,
       .smart, .readMultiple, .writeMultiple, .setMultipleMode, .readDmaQueued, .readDmaWithoutRetry,
       .writeDmaWithoutRetry, .writeDmaQueued] := by decide

/-- The unsupported command bytes that 30_encoding R122 names, second half, and one that it does not name. -/
theorem test_decode_unsupported_high :
    ([0xDE, 0xDF, 0xE0, 0xE1, 0xE2, 0xE3, 0xE4, 0xE5, 0xE6, 0xE7, 0xE8, 0xED, 0xF1, 0xF3, 0xF4, 0xF5, 0xF6, 0xF8, 0xF9,
      0xFF] : List Byte).map decodeCommand
    = [.mediaLock, .mediaUnlock, .standbyImmediate, .idleImmediate, .standby, .idle, .readBuffer, .checkPowerMode, .sleep,
       .flushCache, .writeBuffer, .mediaEject, .securitySetPassword, .securityErasePrepare, .securityEraseUnit,
       .securityFreezeLock, .securityDisablePassword, .readNativeMaxAddress, .setMaxAddress, .unsupportedOther 0xFF] := by
  decide

/-- Bus-master operations, `op[1:0]` (30_encoding R103). -/
theorem test_decode_bus_master :
    ([0b00, 0b01, 0b10, 0b11] : List Byte).map (fun c => decode (.onDevice c .slave [7]))
    = [.ok (.dmaReadSector .slave), .ok (.dmaWriteSector .slave [7]), .ok (.dmaAbort .slave), .ok (.dmaQuery .slave)] := by
  decide

/-- Environment operations, `op[0]` (30_encoding R104). -/
theorem test_decode_environment :
    decode { format := .env, code := 0b0,
             operands := { Operands.zero with d := .slave, present := true, capacity := 5, img := [(3, 1)] } }
        = .ok (.mediumChange .slave true 5 [(3, 1)])
    ∧ decode { format := .env, code := 0b1, operands := { Operands.zero with drv := hdd } } = .ok (.attach .master hdd) := by
  decide

/-- Every decoder row has its code in the named lists, in the same order (30_encoding R120 to R123). -/
theorem test_named_codes :
    portTable.map Prod.fst = namedPortCodes ∧ commandTable.map Prod.fst = namedCommandCodes := by decide

/-! ### Vectors of 95_test_vectors, one step each -/

/-- V-P1, V-P2, V-P3: the signature at power-on. -/
theorem test_power_on_registers :
    (after .rdStatus onA).map State.reply = some (.value .one 0x00)
    ∧ (after .rdError onH).map State.reply = some (.value .one 0x01)
    ∧ (after .rdSectorCount onH).map State.reply = some (.value .one 0x01)
    ∧ (after .rdCylLow onA).map State.reply = some (.value .one 0x14)
    ∧ (after .rdCylHigh onA).map State.reply = some (.value .one 0xEB)
    ∧ (after .rdAltStatus onH).map State.reply = some (.value .one 0x50) := by decide

/-- V-P4, V-P5: offset 1 writes Features and reads Error; Device/Head reads back every bit. -/
theorem test_register_write_read :
    (afterAll [.wrFeatures 0x03, .rdError] onH).map State.reply = some (.value .one 0x01)
    ∧ (after (.wrFeatures 0x03) onH).map (·.regs.features) = some 0x03
    ∧ (afterAll [.wrDeviceHead 0xF0, .rdDeviceHead] onH).map State.reply = some (.value .one 0xF0)
    ∧ (afterAll [.wrSectorNumber 0x55, .rdSectorNumber] onH).map State.reply = some (.value .one 0x55) := by decide

/-- V-P6, V-P7: the data port outside a data phase. -/
theorem test_data_outside_phase :
    (after .rdDataW onH).map State.trace = some [.resetDone, .diag .readDataOutsidePhase]
    ∧ (after (.wrDataW 0x1234) onH).map State.trace = some [.resetDone, .diag .writeDataOutsidePhase]
    ∧ (after .rdDataW onH).map State.regs = some onH.regs := by decide

/-- V-P8, V-P9, V-P10: refused accesses. -/
theorem test_refused_accesses :
    (after (.refusedAccess (PortCode.unpack 0x11)) onH).map State.refused = some (some (.badRegisterAccess 0 1 0 2))
    ∧ (after (.refusedAccess (PortCode.unpack 0x87)) onH).map State.refused = some (some (.badRegisterAccess 1 7 0 1))
    ∧ (after (.refusedWidth 0 0 0 0 3) onH).map State.refused = some (some (.badRegisterAccess 0 0 0 3)) := by decide

/-- V-P11, V-P12, V-P13: nIEN masks and unmasks, Alternate Status keeps, Status acknowledges. -/
theorem test_interrupt_line :
    (after (.wrDevCtl 0x02) { onH with intPending := true }).map (fun t => (t.trace, t.intPending))
        = some ([.resetDone, .irqFall], true)
    ∧ (after .rdAltStatus { onH with intPending := true }).map State.intPending = some true
    ∧ (after .rdStatus { onH with intPending := true }).map (fun t => (t.trace, t.intPending))
        = some ([.resetDone, .irqFall], false) := by decide

/-- V-P14, V-P15, V-P16: the faults of a register write. -/
theorem test_write_faults :
    (after (.wrSectorNumber 0x55) (pioInAt 0)).map State.fault = some (some .taskFileWriteInDataPhase)
    ∧ (after (.wrCommand 0xEC) (dmaAt false 7 [])).map State.fault = some (some .commandWhileInFlight)
    ∧ (after (.wrSectorCount 0x01) (held onA)).map State.fault = some (some .hostWriteDuringReset) := by decide

/-- V-P17, V-B2: a double word in the byte order of the Data register, and the last byte of the buffer. -/
theorem test_data_reads :
    (afterAll [.wrCommand 0xEC, .rdDataD] onH).map (fun t => (t.reply, t.dev0.pioCursor)) = some (.value .four 0x00000040, 4)
    ∧ (after .rdDataD (pioInAt 508)).map (fun t => (t.reply, t.cur, t.regs.status, t.intPending))
        = some (.value .four 0x04030201, none, 0x50, false)
    ∧ (after .rdDataB (pioInAt 510)).map (fun t => (t.reply, t.dev0.pioCursor)) = some (.value .one 0x03, 511)
    ∧ (after .rdDataW (pioInAt 511)).map (fun t => (t.dev0.pioCursor, t.draws, t.regs.status)) = some (512, 1, 0x50) := by
  decide

/-- V-B3, V-C15, V-C16: the write that fills the buffer, and the unlock answer on its first byte. -/
theorem test_data_writes :
    (after (.wrDataW 0xBBAA) (pioOutAt 511)).map (fun t => (t.dev0.pioBuf, t.regs.status, t.intPending))
        = some ([(0, 1), (511, 0xAA)], 0x50, true)
    ∧ (after (.wrDataD 0x00000002) (pioOutAt 0)).map (fun t => (t.dev0.pioBuf, t.dev0.pioCursor)) = some ([(0, 2)], 4)
    ∧ (afterAll [.wrDataB 0x07] { pioOutAt 511 with dev0 := { (pioOutAt 511).dev0 with pioBuf := [] } }).map
        (fun t => (t.regs.status, t.regs.error)) = some (0x51, 0x04) := by decide

/-- V-C1, V-C2: IDENTIFY DEVICE. -/
theorem test_identify_device :
    (after .identifyDevice (withRegs onH fun r => { r with devHead := 0xA0 })).map
        (fun t => (t.regs.status, t.regs.error, t.dev0.pioCursor, t.trace))
        = some (0x58, 0x00, 0, [.resetDone, .cmdStart 0xEC .master, .irqRise])
    ∧ (after .identifyDevice onA).map (fun t => (t.regs.status, t.regs.error, t.regs.cylLow, t.intPending))
        = some (0x51, 0x04, 0x14, true) := by decide

/-- V-C3, V-C4, V-C5: IDENTIFY PACKET DEVICE. -/
theorem test_identify_packet_device :
    (afterAll [.mediumChange .master false 0 [], .identifyPacketDevice, .rdDataW] onA).map
        (fun t => (t.regs.status, t.reply)) = some (0x58, .value .two 0x8085)
    ∧ (after .identifyPacketDevice onH).map (fun t => t.regs.status) = some 0x51
    ∧ (after .identifyPacketDevice (withRegs onH fun r => { r with devHead := 0x10 })).map
        (fun t => (t.regs.status, t.trace.getLast?)) = some (0x51, some .irqRise) := by decide

/-- R156: a record that follows the UDMA mode (word 88) on every medium, and another geometry on none. -/
theorem test_identify_follows_the_device :
    let anyMedium : MediumPattern := { present := none, capacity := none, img := none }
    let whenMode (m : BitVec 3) : IdentifyPattern :=
      { pioMode := none, dmaMode := some (some (.udma, m)), geometry := some none, medium := anyMedium }
    let table : OpenTable IdentifyPattern RecordSource :=
      { cases := [(whenMode 2, .listed [(177, 4)]), (whenMode 1, .listed [(177, 2)])], otherwise := .absent }
    let D (m : BitVec 3) (g : Option Geometry) (medium : Medium) : Device :=
      { onH.dev0 with driver := { hdd with identify := table, medium := medium }, dmaMode := some (.udma, m), geometry := g }
    let other : Medium := { present := true, capacity := 5, img := [(0, 9)] }
    (D 2 none hdd.medium).driver.identifyRecord (D 2 none hdd.medium).identifyKey = some [(177, 4)]
    ∧ (D 1 none other).driver.identifyRecord (D 1 none other).identifyKey = some [(177, 2)]
    ∧ (D 2 none other).driver.identifyRecord (D 2 none other).identifyKey = some [(177, 4)]
    ∧ (D 2 (some { heads := 1, spt := 1 }) other).driver.identifyRecord
        (D 2 (some { heads := 1, spt := 1 }) other).identifyKey = none := by decide

/-- V-C6, V-C7, V-C8: INITIALIZE DEVICE PARAMETERS. -/
theorem test_initialize_device_parameters :
    (after .initializeDeviceParameters (withRegs onH fun r => { r with sectorCount := 0x3F, devHead := 0xAF })).map
        (fun t => (t.dev0.geometry, t.regs.status)) = some (some { heads := 16, spt := 63 }, 0x50)
    ∧ (after .initializeDeviceParameters (withRegs onH fun r => { r with sectorCount := 0x00, devHead := 0xA3 })).map
        (fun t => (t.dev0.geometry, t.regs.status)) = some (none, 0x51)
    ∧ (after .initializeDeviceParameters (withRegs onA fun r => { r with sectorCount := 0x3F, devHead := 0xAF })).map
        (fun t => t.regs.status) = some 0x51 := by decide

/-- V-C9, V-C10: SET FEATURES, a supported mode and one that is not. -/
theorem test_set_features_udma :
    (after .setFeatures (withRegs onA fun r => { r with features := 0x03, sectorCount := 0x42 })).map
        (fun t => (t.dev0.dmaMode, t.regs.status)) = some (some (.udma, 2), 0x50)
    ∧ (after .setFeatures (withRegs onA fun r => { r with features := 0x03, sectorCount := 0x47 })).map
        (fun t => (t.dev0.dmaMode, t.regs.status, t.regs.error)) = some (none, 0x51, 0x04) := by decide

/-- V-C11, V-C12, V-C14: SET FEATURES, PIO modes, an invalid mode and another subcode; R166: mode 0 on the Null slave. -/
theorem test_set_features_others :
    (after .setFeatures (withRegs onA fun r => { r with features := 0x03, sectorCount := 0x0C })).map
        (fun t => (t.dev0.pioMode, t.regs.status)) = some (4, 0x50)
    ∧ (after .setFeatures (withRegs onA fun r => { r with features := 0x03, sectorCount := 0x02 })).map
        (fun t => t.regs.status) = some 0x51
    ∧ (after .setFeatures (withRegs onA fun r => { r with features := 0x02, sectorCount := 0x00 })).map State.trace
        = some [.resetDone, .cmdStart 0xEF .master, .diag .unsupportedSubcode, .cmdEnd 0xEF .master .error, .irqRise]
    ∧ (after .setFeatures (withRegs onA fun r => { r with features := 0x03, sectorCount := 0x00, devHead := 0x10 })).map
        (fun t => (t.regs.status, t.regs.error, t.intPending)) = some (0x51, 0x04, true) := by
  decide

/-- V-C15, V-I4: SECURITY UNLOCK opens its phase without an interrupt. -/
theorem test_security_unlock :
    (after .securityUnlock onH).map (fun t => (t.regs.status, t.intPending, t.dev0.pioCursor)) = some (0x58, false, 0)
    ∧ (after .securityUnlock onA).map (fun t => (t.regs.status, t.intPending)) = some (0x58, false) := by decide

/-- The registers of `ata.lba 0, lba, count` for an LBA below 65536 (30_encoding R126). -/
def lbaRegs (lba : BitVec 16) (count : Byte) (r : Regs) : Regs :=
  { r with sectorCount := count, sectorNumber := lba.extractLsb' 0 8, cylLow := lba.extractLsb' 8 8, cylHigh := 0, devHead := 0xE0 }

/-- V-C17, V-C18: READ DMA arms a window inside the medium and fails past its end. -/
theorem test_read_dma_lba :
    (after .readDma (withRegs onA (lbaRegs 100 3))).map (fun t => (t.dev0.dma, t.dev0.transferActive, t.regs.status, t.intPending))
        = some ({ startLba := 100, endLba := 103, curLba := 100, isWrite := false }, true, 0x58, false)
    ∧ (after .readDma (withRegs onA (lbaRegs 998 3))).map (fun t => (t.dev0.dma, t.regs.status, t.regs.error, t.intPending))
        = some (.idle, 0x51, 0x04, true) := by decide

/-- V-C20, V-C22, V-C23: the count 0, a CHS start, and CHS addresses outside the geometry. -/
theorem test_read_dma_count_and_chs :
    let withGeometry (heads spt : Nat) : State := { onH with dev0 := { onH.dev0 with geometry := some { heads := heads, spt := spt } } }
    (withRegs onA (lbaRegs 0 0)).regs.commandWord.count = 256
    ∧ (after .readDma (withRegs (withGeometry 16 63) fun r =>
        { r with sectorCount := 1, sectorNumber := 20, cylLow := 10, cylHigh := 0, devHead := 0xA5 })).map (fun t => t.dev0.dma)
        = some { startLba := 10414, endLba := 10415, curLba := 10414, isWrite := false }
    ∧ (after .readDma (withRegs (withGeometry 4 17) fun r => { r with devHead := 0xA4 })).map (fun t => t.regs.status) = some 0x51
    ∧ (after .readDma (withRegs (withGeometry 4 17) fun r => { r with sectorNumber := 18, devHead := 0xA0 })).map
        (fun t => t.regs.status) = some 0x51 := by decide

/-- V-C24, V-C25: WRITE DMA arms its window on a hard disk and on a DVD. -/
theorem test_write_dma :
    (after .writeDma (withRegs onH (lbaRegs 7 1))).map (fun t => t.dev0.dma)
        = some { startLba := 7, endLba := 8, curLba := 7, isWrite := true }
    ∧ (after .writeDma (withRegs onA (lbaRegs 0 1))).map (fun t => t.regs.status) = some 0x58 := by decide

/-- V-C26, V-C27, V-C28: PACKET and the unsupported bytes. -/
theorem test_refused_commands :
    (after .packet onA).map State.refused = some (some .packetCommand)
    ∧ (after .readSectors onA).map State.refused = some (some (.unsupportedCommand 0x20))
    ∧ (after .checkPowerMode { onA with unsupportedAborts := true }).map (fun t => (t.regs.status, t.regs.error, t.refused))
        = some (0x51, 0x04, none) := by decide

/-- V-D1, V-C25: a sector read gives the medium's bytes; a sector write stores them and ends the command. -/
theorem test_dma_sectors :
    (after (.dmaReadSector .master) (dmaAt false 7 [true])).map (fun t => (t.reply, t.dev0.dma.curLba, t.cur.isSome))
        = some (.sector [11, 12, 0, 0], 8, true)
    ∧ (after (.dmaWriteSector .master [0, 9, 0, 8]) (dmaAt true 8 [true])).map
        (fun t => (t.dev0.driver.medium.img, t.regs.status, t.dev0.dma))
        = some ([(28, 11), (29, 12), (33, 9), (35, 8)], 0x50, .idle) := by decide

/-- V-D2, V-D3, V-D4, V-D8: the bus-master faults. -/
theorem test_dma_faults :
    (after (.dmaWriteSector .master []) (dmaAt false 7 [])).map State.fault = some (some .dmaDirectionMismatch)
    ∧ (after (.dmaReadSector .slave) (dmaAt false 7 [])).map State.fault = some (some .dmaNoActiveWindow)
    ∧ (after (.dmaReadSector .master) onA).map State.fault = some (some .dmaNoActiveWindow)
    ∧ (after (.dmaWriteSector .master [1, 2, 3]) (dmaAt true 7 [])).map State.fault = some (some .dmaBadSectorBuffer) := by decide

/-- V-D5, V-D6, V-D1: an abort, a failing backend, and a query at the end of a window. -/
theorem test_dma_abort_fail_query :
    (after (.dmaAbort .master) (dmaAt false 8 [])).map (fun t => (t.regs.status, t.regs.error, t.dev0.dma)) = some (0x51, 0x04, .idle)
    ∧ (after (.dmaAbort .master) onA).map State.trace = some [.resetDone, .diag .dmaAbortNoWindow]
    ∧ (after (.dmaReadSector .master) (dmaAt false 8 [false])).map (fun t => (t.reply, t.regs.status, t.dev0.dma))
        = some (.failed, 0x51, .idle)
    ∧ (after (.dmaQuery .master) (dmaAt false 9 [])).map State.reply = some (.query true false true) := by decide

/-- V-D7: the disc leaves in the middle of a transfer. -/
theorem test_medium_change :
    (afterAll [.mediumChange .master false 5 [], .dmaReadSector .master]
        { withRegs onA (lbaRegs 100 3) with
          cur := (dmaAt false 7 []).cur
          dev0 := { onA.dev0 with dma := { startLba := 7, endLba := 9, curLba := 7, isWrite := false }, transferActive := true } }).map
        (fun t => (t.dev0.driver.medium.capacity, t.regs.status, t.cur)) = some (0, 0x51, none)
    ∧ after (.mediumChange .master true 5 []) onH = none := by decide

/-- 40_driver_capability R172: an attached record loads its defaults; a shared record and a channel in flight are refused. -/
theorem test_attach :
    (after (.attach .slave { hdd with id := 9 }) onH).map (fun t => (t.dev1.driver.id, t.dev1.pioCursor, t.regs)) = some (9, 512, onH.regs)
    ∧ after (.attach .slave hdd) onH = none ∧ after (.attach .slave { hdd with id := 9 }) (pioInAt 0) = none := by decide

/-- V-R1: soft reset in the middle of a transfer. -/
theorem test_soft_reset_assert :
    (after (.wrDevCtl 0x04) (dmaAt false 7 [])).map (fun t => (t.cur, t.dev0.dma, t.regs.status)) = some (none, .idle, 0x80)
    ∧ (after (.wrDevCtl 0x04) (dmaAt false 7 [])).map State.trace = some [.resetDone, .cmdAbort 0xC8 .master] := by decide

/-- V-R3: the release of soft reset. -/
theorem test_soft_reset_release :
    let moded := held { onA with dev0 := { onA.dev0 with pioMode := 4, dmaMode := some (.udma, 2) } }
    (after (.wrDevCtl 0x00) moded).map State.regs = some onA.regs
    ∧ (after (.wrDevCtl 0x00) moded).map State.dev0 = some onA.dev0 := by decide

/-- V-R4, V-R5: nIEN survives the release, and a second assertion does nothing. -/
theorem test_soft_reset_device_control :
    (afterAll [.wrDevCtl 0x06, .wrDevCtl 0x02] onA).map (fun t => t.regs.devCtl) = some 0x02
    ∧ afterAll [.wrDevCtl 0x04, .wrDevCtl 0x04] onA = afterAll [.wrDevCtl 0x04] onA := by decide

/-- V-I2: a Command write acknowledges and asserts in one step, without an edge. -/
theorem test_interrupt_reasserted :
    (after .setFeatures { withRegs onA (fun r => { r with features := 0x03, sectorCount := 0x41 }) with intPending := true }).map
        (fun t => (t.trace.getLast?, t.intPending)) = some (some (.cmdEnd 0xEF .master .success), true) := by decide

/-- V-H1 to V-H5: CHS and LBA. -/
theorem test_chs :
    chsToLba { heads := 16, spt := 63 } 1 0 1 = 1008 ∧ chsToLba { heads := 16, spt := 255 } 65535 15 255 = 267386879
    ∧ lbaToChs { heads := 16, spt := 63 } 1007 = (0, 15, 63) ∧ lbaToChs { heads := 16, spt := 63 } 1008 = (1, 0, 1)
    ∧ chsValid { heads := 16, spt := 63 } 5 0 = false ∧ chsValid { heads := 16, spt := 63 } 16 1 = false
    ∧ chsValid { heads := 16, spt := 63 } 0 64 = false := by decide

/-- V-B1, L1-3: a buffer access moves no more than what remains. -/
theorem test_buffer_end :
    ((pioInAt 510).dev0.readBuffer 4) = [3, 4] ∧ ((pioInAt 510).dev0.afterRead 4).pioCursor = 512 := by decide

/-- A program of two requests from reset: the host writes Features and reads Error. -/
theorem test_step_takes_the_oldest :
    (match step { State.reset with inbox := [.write 0x41 0x03, .plain .port 0x01] } with
      | .next t => some (t.regs.features, t.inbox)
      | _ => none) = some (0x03, [.plain .port 0x01]) := by decide

/-! ### The hypotheses of the obligations are met

One theorem per obligation that has hypotheses; where it has several clauses, each clause has its own state, at a boundary
of its range. -/

theorem test_witness_DecodeUndoesEncode :
    (Instr.refusedWidth 1 1 1 7 0).wellFormed = true ∧ (Instr.refusedAccess { blk := 1, dir := 1, nCode := 2, zero := 1, off := 7 }).wellFormed = true
    ∧ (Instr.mediumChange .slave true 0xFFFFFFFF []).wellFormed = true ∧ (Instr.attach .slave (Driver.null 0)).wellFormed = true := by decide

theorem test_witness_DecodingKeepsEveryCodeBit : decode (.plain .port 0xFF) = .ok (.refusedWidth 1 1 1 7 0) := by decide

theorem test_witness_TransferModeValues :
    (0b11111 : BitVec 5) ≠ 0b00000 ∧ (0b11111 : BitVec 5) ≠ 0b00001 ∧ (0b11111 : BitVec 5) ≠ 0b00010
    ∧ (0b11111 : BitVec 5) ≠ 0b00100 ∧ (0b11111 : BitVec 5) ≠ 0b01000 := by decide

/-- An operation waits; a request that is none waits; nothing waits. -/
theorem test_witness_StepRunsTheDecodedOperation :
    (let s := { onH with inbox := [.plain .port 0x07] };
      s.live ∧ s.inbox = Request.plain .port 0x07 :: [] ∧ decode (.plain .port 0x07) = .ok .rdStatus)
    ∧ (let s := { onH with inbox := [.plain .env 0x02] };
      s.live ∧ s.inbox = Request.plain .env 0x02 :: [] ∧ decode (.plain .env 0x02) = .error .codeTooWide)
    ∧ (onH.live ∧ onH.inbox = []) :=
  ⟨⟨⟨rfl, rfl⟩, rfl, rfl⟩, ⟨⟨rfl, rfl⟩, rfl, rfl⟩, ⟨rfl, rfl⟩, rfl⟩

theorem test_witness_QuiescentStatesHaveNoStep :
    ({ onH with fault := some .dmaNoActiveWindow } : State).fault ≠ none ∧ ({ onH with refused := some .packetCommand } : State).refused ≠ none
    ∧ (config hdd).wf = true := by decide

theorem test_witness_LiveStatesCompleteEveryOperation : onH.live := ⟨rfl, rfl⟩

/-- CFG-H with a waiting request is a good state, and it has a step. -/
theorem test_witness_EveryStepKeepsTheInvariant :
    let s := { onH with inbox := [.plain .cmd 0xEC] }
    Inv s ∧ ∃ t, step s = .next t := by
  refine ⟨?_, _, rfl⟩
  constructor
  · constructor
    case window => intro d; cases d <;> decide
    case cursor => intro d; cases d <;> decide
    case activeIsDma => rintro ⟨d, h⟩; cases d <;> simp [onH, State.powerOn, Device.powerOn] at h
    case idleWindow => intro d _; cases d <;> rfl
    case notBusy => decide
    all_goals (intro c h; simp [onH, State.powerOn] at h)
  case activeOwner => intro d h; cases d <;> simp [onH, State.powerOn, Device.powerOn] at h
  case windowOpen => intro d h; cases d <;> simp [onH, State.powerOn, Device.powerOn] at h
  case windowStart => intro d; cases d <;> decide
  case resetHeld => decide
  case statusValues => decide
  case errorValues => decide
  case geometries => intro d g h; cases d <;> cases h
  case buffers => intro d; cases d <;> decide
  case contracts => intro d; cases d <;> decide
  case exclusive => decide
  all_goals (intro c h; simp [onH, State.powerOn] at h)

theorem test_witness_PowerOnMeetsTheInvariant : (config dvd).wf = true ∧ (config hdd).wf = true := by decide

theorem test_witness_ReachedStatesMeetTheSpecInvariants :
    ∃ t, Reached t ∧ t.cur.isSome = true := by
  refine ⟨_, .step { State.powerOn (config hdd) with inbox := [.plain .cmd 0xEC], answers := [] } _
    (.powerOn (config hdd) (by decide) _ _) rfl, ?_⟩
  decide

/-- A command starts; an open command goes on, and ends in each of the four ways. -/
theorem test_witness_OnlyTheseOperationsStartOrEndACommand :
    (onH.cur = none ∧ ((after (.wrCommand 0xF2) onH).map fun t => t.cur.isSome) = some true)
    ∧ ((pioInAt 0).cur.isSome = true ∧ ((after .rdDataB (pioInAt 0)).map fun t => t.cur) = some (pioInAt 0).cur)
    ∧ ((after .rdDataD (pioInAt 508)).map fun t => t.cur) = some none
    ∧ ((after (.wrDataB 1) (pioOutAt 511)).map fun t => t.cur) = some none
    ∧ ((after (.dmaAbort .master) (dmaAt true 7 [])).map fun t => t.cur) = some none
    ∧ ((after (.wrDevCtl 0x04) (dmaAt true 7 [])).map fun t => t.cur) = some none := by decide

theorem test_witness_TraceGrowsAndIsNeverRead : ∃ t, exec .setFeatures onH = .next t := ⟨_, rfl⟩

/-- The line rises, falls, and stays. -/
theorem test_witness_InterruptEdgeEvents :
    ((after .setFeatures onH).map fun t => t.irq) = some true
    ∧ ((after .rdStatus { onH with intPending := true }).map fun t => t.irq) = some false
    ∧ ((after .rdError onH).map fun t => t.irq) = some false := by decide

theorem test_witness_InterruptAcknowledgement :
    let s := { onH with intPending := true }
    s.live ∧ s.intPending = true ∧ s.regs.devCtl.getLsbD 2 = false ∧ (0x04 : Byte).getLsbD 2 = true ∧ s.cur = none
    ∧ ((after .rdStatus s).map State.intPending) = some false :=
  ⟨⟨rfl, rfl⟩, rfl, rfl, rfl, rfl, rfl⟩

theorem test_witness_OnlyTheseOperationsWriteTheTaskFile : ∃ t, exec (.wrCylLow 7) onH = .next t := ⟨_, rfl⟩

theorem test_witness_OnlyTheseOperationsChangeModesAndGeometry : ∃ t, exec .setFeatures onH = .next t := ⟨_, rfl⟩

theorem test_witness_OnlyTheseOperationsChangeAMedium :
    ∃ t, exec (.dmaWriteSector .master [0, 9, 0, 8]) (dmaAt true 8 [true]) = .next t := ⟨_, rfl⟩

/-- The slave, while the master's command is current and while the master is selected. -/
theorem test_witness_TheOtherDeviceIsUntouched :
    ((∀ c, (dmaAt false 7 [true]).cur = some c → c.d ≠ .slave) ∧ ((dmaAt false 7 [true]).cur = none → onH.selected ≠ .slave)
      ∧ (∀ v, Instr.dmaReadSector .master ≠ .wrDevCtl v) ∧ (encode (.dmaReadSector .master)).format ≠ .env
      ∧ ∃ t, exec (.dmaReadSector .master) (dmaAt false 7 [true]) = .next t)
    ∧ (onH.cur = none ∧ onH.selected ≠ .slave ∧ ∃ t, exec .identifyDevice onH = .next t) := by
  refine ⟨⟨?_, fun _ => by decide, fun v => Instr.noConfusion, by decide, _, rfl⟩, rfl, by decide, _, rfl⟩
  intro c h
  cases h
  decide

/-- Each of the six faults is reached. -/
theorem test_witness_FaultCauses :
    ((after (.wrFeatures 1) (held onH)).map State.fault) = some (some .hostWriteDuringReset)
    ∧ ((after .seek (pioInAt 0)).map State.fault) = some (some .commandWhileInFlight)
    ∧ ((after (.wrCylHigh 1) (pioInAt 0)).map State.fault) = some (some .taskFileWriteInDataPhase)
    ∧ ((after (.dmaReadSector .master) onH).map State.fault) = some (some .dmaNoActiveWindow)
    ∧ ((after (.dmaReadSector .master) (dmaAt true 7 [])).map State.fault) = some (some .dmaDirectionMismatch)
    ∧ ((after (.dmaWriteSector .master []) (dmaAt true 7 [])).map State.fault) = some (some .dmaBadSectorBuffer) := by decide

/-- Each of the refusals is reached by a well-formed operation, each cause of R219 among them; a record in both slots is an
ill-formed configuration. -/
theorem test_witness_RefusalCauses :
    (∀ a ∈ [(0x11 : Byte), 0x87, 0x08], (Instr.refusedAccess (PortCode.unpack a)).wellFormed = true
      ∧ ((after (.refusedAccess (PortCode.unpack a)) onH).bind State.refused).isSome = true) ∧
    ((after (.refusedWidth 0 0 0 0 0) onH).map State.refused) = some (some (.badRegisterAccess 0 0 0 0))
    ∧ ((after (.wrCommand 0xA0) onH).map State.refused) = some (some .packetCommand)
    ∧ ((after (.wrCommand 0xFF) onH).map State.refused) = some (some (.unsupportedCommand 0xFF))
    ∧ (State.powerOn { config hdd with slave := hdd }).refused = some .illFormedConfiguration := by decide

theorem test_witness_PowerOnValues : (config dvd).wf = true ∧ (config hdd).wf = true ∧ configurationAtReset.wf = true := by
  decide

theorem test_witness_SoftResetAssertion :
    (dmaAt false 7 []).live ∧ (dmaAt false 7 []).regs.devCtl.getLsbD 2 = false ∧ (0x04 : Byte).getLsbD 2 = true :=
  ⟨⟨rfl, rfl⟩, rfl, rfl⟩

theorem test_witness_SoftResetRelease :
    (held onH).live ∧ (held onH).regs.devCtl.getLsbD 2 = true ∧ (0x02 : Byte).getLsbD 2 = false := ⟨⟨rfl, rfl⟩, rfl, rfl⟩

/-- CFG-A in soft reset is a good state. -/
theorem test_held_state_is_good : Inv (held onA) := by
  constructor
  · constructor
    case window => intro d; cases d <;> decide
    case cursor => intro d; cases d <;> decide
    case activeIsDma => rintro ⟨d, h⟩; cases d <;> simp [held, withRegs, onA, State.powerOn, Device.powerOn] at h
    case idleWindow => intro d _; cases d <;> rfl
    case notBusy => decide
    all_goals (intro c h; simp [held, withRegs, onA, State.powerOn] at h)
  case activeOwner => intro d h; cases d <;> simp [held, withRegs, onA, State.powerOn, Device.powerOn] at h
  case windowOpen => intro d h; cases d <;> simp [held, withRegs, onA, State.powerOn, Device.powerOn] at h
  case windowStart => intro d; cases d <;> decide
  case resetHeld => decide
  case statusValues => decide
  case errorValues => decide
  case geometries => intro d g h; cases d <;> cases h
  case buffers => intro d; cases d <;> decide
  case contracts => intro d; cases d <;> decide
  case exclusive => decide
  all_goals (intro c h; simp [held, withRegs, onA, State.powerOn] at h)

/-- In soft reset the master of CFG-A takes a medium change, and its slave a new record. -/
theorem test_witness_WhileSoftResetIsHeld :
    let s := held onA
    s.live ∧ Inv s ∧ s.regs.devCtl.getLsbD 2 = true ∧ (s.dev .master).driver.kind = .dvd
    ∧ ({ hdd with id := 9 } : Driver).id ≠ (s.dev Slot.slave.other).driver.id
    ∧ (encode .nop).format = .cmd := by
  exact ⟨⟨rfl, rfl⟩, test_held_state_is_good, rfl, rfl, by decide, rfl⟩

theorem test_witness_TaskFileReads : (held onH).live ∧ (pioInAt 0).live ∧ onH.live := ⟨⟨rfl, rfl⟩, ⟨rfl, rfl⟩, rfl, rfl⟩

theorem test_witness_StatusRead :
    (pioInAt 0).live ∧ (held onA).live ∧ Inv (held onA) ∧ (held onA).regs.devCtl.getLsbD 2 = true :=
  ⟨⟨rfl, rfl⟩, ⟨rfl, rfl⟩, test_held_state_is_good, rfl⟩

theorem test_witness_AlternateStatusRead : (held onH).live := ⟨rfl, rfl⟩

/-- Soft reset, a command in flight, and an idle channel. -/
theorem test_witness_TaskFileWrites :
    ((held onH).live ∧ (held onH).regs.devCtl.getLsbD 2 = true)
    ∧ ((pioInAt 0).live ∧ (pioInAt 0).regs.devCtl.getLsbD 2 = false ∧ (pioInAt 0).cur.isSome = true)
    ∧ (onH.live ∧ onH.regs.devCtl.getLsbD 2 = false ∧ onH.cur.isSome = false) :=
  ⟨⟨⟨rfl, rfl⟩, rfl⟩, ⟨⟨rfl, rfl⟩, rfl, rfl⟩, ⟨rfl, rfl⟩, rfl, rfl⟩

theorem test_witness_CommandWriteFaults :
    (encode .packet).format = .cmd ∧ ((held onH).live ∧ (held onH).regs.devCtl.getLsbD 2 = true)
    ∧ ((pioInAt 0).live ∧ (pioInAt 0).regs.devCtl.getLsbD 2 = false ∧ (pioInAt 0).cur ≠ none) :=
  ⟨rfl, ⟨⟨rfl, rfl⟩, rfl⟩, ⟨rfl, rfl⟩, rfl, by decide⟩

/-- An idle channel, with the master and with the slave selected: what every command statement assumes. -/
theorem test_witness_idle :
    onH.idle ∧ onA.idle ∧ (withRegs onH fun r => { r with devHead := 0xFF }).idle
    ∧ onH.selected = .master ∧ (withRegs onH fun r => { r with devHead := 0xFF }).selected = .slave :=
  ⟨⟨⟨rfl, rfl⟩, rfl, rfl⟩, ⟨⟨rfl, rfl⟩, rfl, rfl⟩, ⟨⟨rfl, rfl⟩, rfl, rfl⟩, rfl, rfl⟩

theorem test_witness_CommandWriteCompletes :
    onH.idle ∧ onH.unsupportedAborts = false ∧ ({ onH with unsupportedAborts := true } : State).idle
    ∧ (0xC8 : Byte) ∈ ([0xEC, 0xA1, 0x91, 0xEF, 0xF2, 0xC8, 0xCA] : List Byte)
    ∧ (0xC9 : Byte) ∉ ([0xEC, 0xA1, 0x91, 0xEF, 0xF2, 0xC8, 0xCA] : List Byte) :=
  ⟨⟨⟨rfl, rfl⟩, rfl, rfl⟩, rfl, ⟨⟨rfl, rfl⟩, rfl, rfl⟩, by decide, by decide⟩

/-- A read inside the buffer, one that drains it exactly, and one that runs past its end. -/
theorem test_witness_DataReadInItsPhase :
    ∀ k ∈ [0, 508, 511], ∃ c, (pioInAt k).live ∧ (pioInAt k).cur = some c ∧ c.proto = .pioIn :=
  fun _ _ => ⟨_, ⟨rfl, rfl⟩, rfl, rfl⟩

/-- No command, and a command of the other direction. -/
theorem test_witness_DataPortOutsideItsPhase :
    (onH.live ∧ onH.cur = none) ∧ ((pioOutAt 0).live ∧ ∀ c, (pioOutAt 0).cur = some c → c.proto ≠ .pioIn)
    ∧ ((pioInAt 0).live ∧ ∀ c, (pioInAt 0).cur = some c → c.proto ≠ .pioOut) := by
  refine ⟨⟨⟨rfl, rfl⟩, rfl⟩, ⟨⟨rfl, rfl⟩, ?_⟩, ⟨rfl, rfl⟩, ?_⟩ <;> (intro c h; cases h; decide)

theorem test_witness_DataWriteInItsPhase :
    ∀ k ∈ [0, 508, 511], ∃ c, (pioOutAt k).live ∧ (pioOutAt k).cur = some c ∧ c.proto = .pioOut
      ∧ Memory.wf ((pioOutAt k).dev c.d).pioBuf = true :=
  fun _ _ => ⟨_, ⟨rfl, rfl⟩, rfl, rfl, rfl⟩

/-- At the last four bytes, where the access ends the block. -/
theorem test_witness_DataPortWidthsAgree :
    ∃ c, (pioInAt 508).live ∧ (pioInAt 508).cur = some c ∧ c.proto = .pioIn ∧ ((pioInAt 508).dev c.d).pioCursor + 4 ≤ 512 :=
  ⟨_, ⟨rfl, rfl⟩, rfl, rfl, by decide⟩

/-- From byte 508: two mixed accesses that leave one byte, a last one that ends the block there exactly, and one that runs past
its end; another operation that answers a next state, and a soft reset. -/
theorem test_witness_ABlockEndsAtItsLastByte :
    (∃ c, (pioInAt 508).live ∧ (pioInAt 508).cur = some c ∧ c.proto = .pioIn)
    ∧ (pioInAt 508).dev0.pioCursor + (([(Instr.rdDataB, 1), (Instr.rdDataW, 2)] : List (Instr × Nat)).map Prod.snd).sum = 511
    ∧ 511 + 1 = 512 ∧ 512 ≤ 511 + 2
    ∧ ((after .rdStatus (pioInAt 508)).map State.cur) = some (pioInAt 508).cur
    ∧ (pioInAt 508).regs.devCtl.getLsbD 2 = false
    ∧ ((after (.wrDevCtl 0x04) (pioInAt 508)).map State.cur) = some none :=
  ⟨⟨_, ⟨rfl, rfl⟩, rfl, rfl⟩, by decide, by decide, by decide, by decide, by decide, by decide⟩

/-- With SRST clear and with SRST set. -/
theorem test_witness_DeviceControlWriteWithoutReset :
    (onH.live ∧ onH.regs.devCtl.getLsbD 2 = (0x02 : Byte).getLsbD 2)
    ∧ ((held onH).live ∧ (held onH).regs.devCtl.getLsbD 2 = (0x06 : Byte).getLsbD 2) :=
  ⟨⟨⟨rfl, rfl⟩, rfl⟩, ⟨rfl, rfl⟩, rfl⟩

/-- Width 3; a word access next to the Data register; control offsets 5 and 7; bit 3 set. -/
theorem test_witness_RefusedAccesses :
    onH.live
    ∧ (let p : PortCode := { blk := 0, dir := 0, nCode := 3, zero := 0, off := 0 };
      p.nCode = 3 ∧ (3 : BitVec 3).toNat ≠ 1 ∧ (3 : BitVec 3).toNat ≠ 2 ∧ (3 : BitVec 3).toNat ≠ 4)
    ∧ (let p : PortCode := { blk := 0, dir := 1, nCode := 1, zero := 0, off := 1 };
      p.widthBytes ≠ 1 ∧ ¬(p.blk = 0 ∧ p.off = 0))
    ∧ (∀ off ∈ [(5 : BitVec 3), 7], off ≠ 6)
    ∧ (PortCode.unpack 0x08).zero = 1 :=
  ⟨⟨rfl, rfl⟩, by decide, by decide, by decide, by decide⟩

theorem test_witness_IdentifyCommands : onH.idle ∧ onA.idle := ⟨⟨⟨rfl, rfl⟩, rfl, rfl⟩, ⟨rfl, rfl⟩, rfl, rfl⟩

theorem test_witness_InitializeDeviceParametersResult : onH.idle := ⟨⟨rfl, rfl⟩, rfl, rfl⟩

/-- A DVD selected, and the Null slave. -/
theorem test_witness_SetFeaturesResult :
    (onA.idle ∧ (onA.dev onA.selected).driver.kind ≠ .null)
    ∧ (let s := withRegs onA fun r => { r with devHead := 0x10 }; s.idle ∧ (s.dev s.selected).driver.kind = .null) :=
  ⟨⟨⟨⟨rfl, rfl⟩, rfl, rfl⟩, by decide⟩, ⟨⟨rfl, rfl⟩, rfl, rfl⟩, rfl⟩

theorem test_witness_SecurityUnlockEntry : onA.idle := ⟨⟨rfl, rfl⟩, rfl, rfl⟩

/-- The range that ends exactly at the capacity of the DVD fits, in LBA mode. -/
theorem test_witness_DmaCommands_lba :
    let s := withRegs onA (lbaRegs 997 3)
    s.idle ∧ (s.dev s.selected).driver.medium.present = true ∧ s.regs.devHead.getLsbD 6 = true
    ∧ s.regs.commandWord.lba28.toNat = 997 ∧ 997 + 3 ≤ (s.dev s.selected).driver.medium.capacity.toNat
    ∧ ∀ a, (s.dev s.selected).driver.userAccessible a = true :=
  ⟨⟨⟨rfl, rfl⟩, rfl, rfl⟩, rfl, rfl, rfl, by decide, fun _ => rfl⟩

/-- The last sector of a track fits, in CHS mode. -/
theorem test_witness_DmaCommands_chs :
    let s := withRegs { onH with dev0 := { onH.dev0 with geometry := some { heads := 16, spt := 63 } } }
      fun r => { r with sectorCount := 1, sectorNumber := 63, devHead := 0xAF }
    s.idle ∧ s.regs.devHead.getLsbD 6 = false ∧ s.regs.devHead.toNat % 16 < 16 ∧ s.regs.sectorNumber.toNat ≤ 63
    ∧ (0 * 16 + 15) * 63 + (63 - 1) + 1 ≤ (s.dev s.selected).driver.medium.capacity.toNat :=
  ⟨⟨⟨rfl, rfl⟩, rfl, rfl⟩, rfl, by decide, by decide, by decide⟩

/-- One sector more does not fit: the end would be 1001. -/
theorem test_witness_DmaCommands_fails :
    let s := withRegs onA (lbaRegs 998 3)
    s.idle ∧ s.regs.devHead.getLsbD 6 = true
    ∧ ¬(s.regs.commandWord.lba28.toNat + s.regs.commandWord.count ≤ (s.dev s.selected).driver.medium.capacity.toNat) :=
  ⟨⟨⟨rfl, rfl⟩, rfl, rfl⟩, rfl, by decide⟩

/-- The greatest start of each addressing mode, and a window that is armed. -/
theorem test_witness_TheDmaWindowFitsItsWidth :
    (let D := { onH.dev0 with geometry := some { heads := 16, spt := 255 } };
      (∀ g, D.geometry = some g → g.inRange = true)
      ∧ CommandWord.startLba 0x0FFFFFFF000000 D.geometry = some 267386879
      ∧ CommandWord.startLba 0x4FFFFFFF000000 D.geometry = some (2 ^ 28 - 1)
      ∧ D.armedWindow 0x40000005020000 true = some { startLba := 5, endLba := 7, curLba := 5, isWrite := true }) := by
  refine ⟨?_, by decide, by decide, by decide⟩
  intro g h
  cases h
  decide

theorem test_witness_PacketIsRefused : onA.idle ∧ onH.idle := ⟨⟨⟨rfl, rfl⟩, rfl, rfl⟩, ⟨rfl, rfl⟩, rfl, rfl⟩

/-- With and without `UNSUPPORTED_ABORTS`. -/
theorem test_witness_UnsupportedCommands : onA.idle ∧ ({ onA with unsupportedAborts := true } : State).idle :=
  ⟨⟨⟨rfl, rfl⟩, rfl, rfl⟩, ⟨rfl, rfl⟩, rfl, rfl⟩

/-- What the sector statements assume of a window, at its first and its last sector. -/
theorem test_witness_window :
    ∀ isWrite : Bool, ∀ lba ∈ [(7 : Lba), 8], ∀ answers, ∃ c,
      (dmaAt isWrite lba answers).live ∧ (dmaAt isWrite lba answers).cur = some c ∧ c.proto = .dma ∧ c.d = .master
      ∧ (dmaAt isWrite lba answers).dev0.transferActive = true ∧ (dmaAt isWrite lba answers).dev0.dma.isWrite = isWrite
      ∧ (dmaAt isWrite lba answers).dev0.dma.curLba.toNat < (dmaAt isWrite lba answers).dev0.dma.endLba.toNat
      ∧ Memory.wf (dmaAt isWrite lba answers).dev0.driver.medium.img = true := by
  intro isWrite lba h answers
  refine ⟨_, ⟨rfl, rfl⟩, rfl, rfl, rfl, rfl, rfl, ?_, rfl⟩
  simp only [List.mem_cons, List.not_mem_nil, or_false] at h
  rcases h with rfl | rfl
  · exact (by decide : (7 : Lba).toNat < (9 : Lba).toNat)
  · exact (by decide : (8 : Lba).toNat < (9 : Lba).toNat)

/-- A medium that is gone; a sector inside the capacity with each answer of the backend. -/
theorem test_witness_DmaSectorRead :
    ¬((hdd.withImage []).medium.present = true ∧ 8 * 4 + 4 ≤ (3 : Lba).toNat * 4)
    ∧ (dmaAt false 8 []).dev0.driver.medium.present = true
    ∧ 8 * 4 + 4 ≤ (dmaAt false 8 []).dev0.driver.medium.capacity.toNat * 4
    ∧ (dmaAt false 8 [false]).backendAnswer = false ∧ (dmaAt false 8 [true]).backendAnswer = true := by decide

/-- A buffer of another length; a DVD, which is not writable; a write inside the capacity with each answer. -/
theorem test_witness_DmaSectorWrite :
    ([1, 2, 3] : List Byte).length ≠ hdd.sectorSize ∧ ¬(dvd.writable = true)
    ∧ ([1, 2, 3, 4] : List Byte).length = hdd.sectorSize ∧ hdd.writable = true ∧ hdd.medium.present = true
    ∧ 7 * 4 + 4 ≤ hdd.medium.capacity.toNat * 4
    ∧ (dmaAt true 7 [false]).backendAnswer = false ∧ (dmaAt true 7 [true]).backendAnswer = true := by decide

/-- No window; a write window; a read window. -/
theorem test_witness_DmaSectorFaults :
    (onH.live ∧ ¬∃ c, onH.cur = some c ∧ c.proto = .dma ∧ c.d = .master ∧ (onH.dev .master).transferActive = true)
    ∧ ∀ isWrite : Bool, (dmaAt isWrite 7 []).live
      ∧ (∃ c, (dmaAt isWrite 7 []).cur = some c ∧ c.proto = .dma ∧ c.d = .master ∧ ((dmaAt isWrite 7 []).dev .master).transferActive = true)
      ∧ ((dmaAt isWrite 7 []).dev .master).dma.isWrite = isWrite := by
  refine ⟨⟨⟨rfl, rfl⟩, ?_⟩, fun isWrite => ⟨⟨rfl, rfl⟩, ⟨_, rfl, rfl, rfl, rfl⟩, rfl⟩⟩
  rintro ⟨c, h, -⟩
  cases h

/-- This device's DMA command is current; the other device's is; none is. -/
theorem test_witness_DmaAbortResult :
    (∃ c, (dmaAt false 7 []).live ∧ (dmaAt false 7 []).cur = some c ∧ c.proto = .dma ∧ c.d = .master)
    ∧ (¬∃ c, (dmaAt false 7 []).cur = some c ∧ c.proto = .dma ∧ c.d = .slave) ∧ onH.cur = none := by
  refine ⟨⟨_, ⟨rfl, rfl⟩, rfl, rfl, rfl⟩, ?_, rfl⟩
  rintro ⟨c, h, -, hd⟩
  cases h
  cases hd

theorem test_witness_DmaQueryResult : onH.live ∧ (dmaAt true 8 []).live := ⟨⟨rfl, rfl⟩, rfl, rfl⟩

theorem test_witness_AReadTransferTakesExactlyItsSectors :
    let s := dmaAt false 7 [true, true, false]
    (∃ c, s.live ∧ s.cur = some c ∧ c.proto = .dma ∧ c.d = .master)
    ∧ s.dev0.transferActive = true ∧ s.dev0.dma.isWrite = false ∧ 0 < s.dev0.dma.endLba.toNat - s.dev0.dma.curLba.toNat
    ∧ s.dev0.driver.medium.present = true ∧ s.dev0.dma.endLba.toNat ≤ s.dev0.driver.medium.capacity.toNat
    ∧ s.answers = List.replicate (s.dev0.dma.endLba.toNat - s.dev0.dma.curLba.toNat) true ++ [false] :=
  ⟨⟨_, ⟨rfl, rfl⟩, rfl, rfl, rfl⟩, by decide⟩

theorem test_witness_AWriteTransferStoresItsSectors :
    let s := dmaAt true 7 [true, true, false]
    let bufs : List (List Byte) := [[1, 2, 3, 4], [5, 6, 7, 0]]
    (∃ c, s.live ∧ s.cur = some c ∧ c.proto = .dma ∧ c.d = .master)
    ∧ s.dev0.transferActive = true ∧ s.dev0.dma.isWrite = true ∧ bufs ≠ []
    ∧ s.dev0.dma.curLba.toNat + bufs.length = s.dev0.dma.endLba.toNat
    ∧ s.dev0.driver.writable = true ∧ s.dev0.driver.medium.present = true
    ∧ s.dev0.dma.endLba.toNat ≤ s.dev0.driver.medium.capacity.toNat ∧ Memory.wf s.dev0.driver.medium.img = true
    ∧ (∀ buf ∈ bufs, buf.length = s.dev0.driver.sectorSize) ∧ s.answers = List.replicate bufs.length true ++ [false] :=
  ⟨⟨_, ⟨rfl, rfl⟩, rfl, rfl, rfl⟩, by decide⟩

/-- A write that succeeds at sector 8, and a read at sector 8 of the driver it leaves. -/
theorem test_witness_AWrittenSectorReadsBack :
    ∃ t u v, exec (.dmaWriteSector .master [0, 9, 0, 8]) (dmaAt true 8 [true]) = .next t ∧ t.reply = .done
      ∧ u = { dmaAt false 8 [true] with dev0 := { (dmaAt false 8 []).dev0 with driver := t.dev0.driver } }
      ∧ Memory.wf (dmaAt true 8 [true]).dev0.driver.medium.img = true
      ∧ exec (.dmaReadSector .master) u = .next v ∧ v.reply = .sector [0, 9, 0, 8] :=
  ⟨_, _, _, rfl, rfl, rfl, rfl, rfl, rfl⟩

theorem test_witness_MediumChangeResult :
    onA.live ∧ (onA.dev .master).driver.kind = .dvd ∧ onH.live ∧ (onH.dev .master).driver.kind ≠ .dvd :=
  ⟨⟨rfl, rfl⟩, rfl, ⟨rfl, rfl⟩, by decide⟩

/-- A free record on an idle channel; a command in flight; the record of the other slot. -/
theorem test_witness_AttachResult :
    (onH.live ∧ onH.cur = none ∧ dvd.id ≠ (onH.dev Slot.master.other).driver.id) ∧ (pioInAt 0).cur ≠ none
    ∧ hdd.id = (onH.dev Slot.slave.other).driver.id := ⟨⟨⟨rfl, rfl⟩, rfl, by decide⟩, by decide, rfl⟩

/-- The smallest geometry, and the last sector of a track of the usual one. -/
theorem test_witness_ChsRoundTrip :
    (let g : Geometry := { heads := 1, spt := 1 };
      1 ≤ g.heads ∧ 1 ≤ g.spt ∧ 0 < g.heads ∧ 1 ≤ 1 ∧ 1 ≤ g.spt)
    ∧ (let g : Geometry := { heads := 16, spt := 63 };
      1 ≤ g.heads ∧ 1 ≤ g.spt ∧ 15 < g.heads ∧ 63 ≤ g.spt) := by decide

theorem test_witness_LbaRoundTrip :
    let g : Geometry := { heads := 1, spt := 1 }
    1 ≤ g.heads ∧ 1 ≤ g.spt := by decide

/-- A full buffer and an empty one. -/
theorem test_witness_BufferAccessesStayInside :
    ∀ k ∈ [0, 511, 512], (pioInAt k).dev0.pioCursor ≤ 512 ∧ Memory.wf (pioInAt k).dev0.pioBuf = true := by decide

end Sys2Proof.Tests
end

section
/-! PROOFS. One step of the machine: what it does with the inbox (00_scope R13, 41_register_access R200). -/

namespace Sys2Proof.Machine

/-- In a live state with nothing waiting a step stays where it is. -/
theorem step_of_inbox_nil {s : State} (hl : s.live) (h : s.inbox = []) : step s = .next s := by
  rw [step, whenEnabled_live hl, h]

/-- In a live state a step takes the oldest request out of the inbox and runs it. -/
theorem step_of_inbox_cons {s : State} {q : Request} {rest : List Request} (hl : s.live) (h : s.inbox = q :: rest) :
    step s = runRequest q (s.withInbox rest) := by
  rw [step, whenEnabled_live hl, h]

/-- A request that decodes runs its operation. -/
theorem runRequest_of_decode_ok {q : Request} {i : Instr} (h : decode q = .ok i) (s : State) :
    runRequest q s = exec i s := by
  rw [runRequest, h]

/-- A request that is no operation is refused by its reason. -/
theorem runRequest_of_decode_error {q : Request} {e : DecodeError} (h : decode q = .error e) (s : State) :
    runRequest q s = .refused (.undecodable e) := by
  rw [runRequest, h]

/-- Settles O7, by what a step does on an empty and on a non-empty inbox. -/
theorem stepRunsTheDecodedOperation : Obligations.StepRunsTheDecodedOperation := by
  refine ⟨fun s q rest hl h => ⟨fun i hi => ?_, fun e he => ?_⟩, fun s hl h => step_of_inbox_nil hl h⟩
  · exact (step_of_inbox_cons hl h).trans (runRequest_of_decode_ok hi _)
  · exact (step_of_inbox_cons hl h).trans (runRequest_of_decode_error he _)

end Sys2Proof.Machine
end

section
/-! PROOFS. The width of the DMA window: the bounds of the command's operands, of the CHS conversion and of the start that a
command word names (30_encoding R110 to R112; 44_dma_engine R371, R373; 45_pio_and_addressing R430, R432). -/

namespace Sys2Proof

theorem Geometry.inRange_iff {g : Geometry} :
    g.inRange = true ↔ (1 ≤ g.heads ∧ g.heads ≤ 16) ∧ 1 ≤ g.spt ∧ g.spt ≤ 255 := by
  simp [Geometry.inRange, and_assoc]

end Sys2Proof

namespace Sys2Proof.Machine

theorem chsValid_iff {g : Geometry} {head sec : Nat} :
    chsValid g head sec = true ↔ head < g.heads ∧ 1 ≤ sec ∧ sec ≤ g.spt := by
  simp [chsValid, and_assoc]

/-- A valid CHS address on one of `cyls` cylinders has an LBA among the `cyls * heads * spt` sectors of these cylinders. -/
theorem chsToLba_lt {g : Geometry} {cyls cyl head sec : Nat} (hcyl : cyl < cyls) (hv : chsValid g head sec = true) :
    chsToLba g cyl head sec < cyls * g.heads * g.spt := by
  obtain ⟨hhead, hsec, hspt⟩ := chsValid_iff.mp hv
  have htrack : cyl * g.heads + head + 1 ≤ cyls * g.heads :=
    calc cyl * g.heads + head + 1 ≤ cyl * g.heads + g.heads := by omega
      _ = (cyl + 1) * g.heads := (Nat.succ_mul _ _).symm
      _ ≤ cyls * g.heads := Nat.mul_le_mul_right _ hcyl
  calc chsToLba g cyl head sec < (cyl * g.heads + head) * g.spt + g.spt := by unfold chsToLba; omega
    _ = (cyl * g.heads + head + 1) * g.spt := (Nat.succ_mul _ _).symm
    _ ≤ cyls * g.heads * g.spt := Nat.mul_le_mul_right _ htrack

/-- The sector count of a command is 1 to 256 (30_encoding R112). -/
theorem CommandWord.count_bounds (w : CommandWord) : 1 ≤ w.count ∧ w.count ≤ 256 := by
  unfold CommandWord.count
  split
  · omega
  · rename_i hsc
    have hpos : w.sc.toNat ≠ 0 := fun h => hsc (BitVec.eq_of_toNat_eq h)
    have hlt := w.sc.isLt
    omega

/-- The start that a command word names: its LBA, or the LBA of its valid CHS address under a geometry. -/
theorem CommandWord.startLba_eq_some {w : CommandWord} {geometry : Option Geometry} {start : Nat} :
    w.startLba geometry = some start ↔
      (w.lbaMode = true ∧ start = w.lba28.toNat) ∨
        (w.lbaMode = false ∧ ∃ g, geometry = some g ∧ chsValid g w.hs.toNat w.sn.toNat = true ∧
          start = chsToLba g w.cyl.toNat w.hs.toNat w.sn.toNat) := by
  unfold CommandWord.startLba
  cases hm : w.lbaMode with
  | true => simp [eq_comm (a := start)]
  | false =>
    cases geometry with
    | none => simp
    | some g => simp [eq_comm (a := start)]

/-- A start in LBA mode fits 28 bits (30_encoding R110). -/
theorem CommandWord.startLba_le_of_lbaMode {w : CommandWord} {geometry : Option Geometry} {start : Nat}
    (hm : w.lbaMode = true) (h : w.startLba geometry = some start) : start ≤ 2 ^ 28 - 1 := by
  obtain ⟨-, rfl⟩ | ⟨hm', -⟩ := startLba_eq_some.mp h
  · have := w.lba28.isLt
    omega
  · simp [hm] at hm'

/-- A start in CHS mode is a sector of a device with 65536 cylinders, 16 heads and 255 sectors per track (30_encoding R111,
10_state R41). -/
theorem CommandWord.startLba_le_of_chsMode {w : CommandWord} {geometry : Option Geometry} {start : Nat}
    (hg : ∀ g, geometry = some g → g.inRange = true) (hm : w.lbaMode = false)
    (h : w.startLba geometry = some start) : start ≤ 267386879 := by
  obtain ⟨hm', -⟩ | ⟨-, g, hgeom, hv, rfl⟩ := startLba_eq_some.mp h
  · simp [hm] at hm'
  · obtain ⟨⟨-, hheads⟩, -, hspt⟩ := Geometry.inRange_iff.mp (hg g hgeom)
    have hlt := chsToLba_lt w.cyl.isLt hv
    have hsize : 2 ^ 16 * g.heads * g.spt ≤ 2 ^ 16 * 16 * 255 :=
      Nat.mul_le_mul (Nat.mul_le_mul_left _ hheads) hspt
    omega

/-- The end of a command's range is at most 2^28 + 255, in both addressing modes (44_dma_engine R373). -/
theorem CommandWord.startLba_add_count_le {w : CommandWord} {geometry : Option Geometry} {start : Nat}
    (hg : ∀ g, geometry = some g → g.inRange = true) (h : w.startLba geometry = some start) :
    start + w.count ≤ 2 ^ 28 + 255 := by
  have hcount := w.count_bounds.2
  cases hm : w.lbaMode with
  | true =>
    have := startLba_le_of_lbaMode hm h
    omega
  | false =>
    have := startLba_le_of_chsMode hg hm h
    omega

/-- The fields of an armed window whose end fits 32 bits are the numbers they stand for. -/
theorem armedWindow_fields {D : Device} {w : CommandWord} {isWrite : Bool} {win : DmaWindow} {start : Nat}
    (hstart : w.startLba D.geometry = some start) (hfit : start + w.count < 2 ^ 32)
    (h : D.armedWindow w isWrite = some win) :
    win.startLba.toNat = start ∧ win.curLba.toNat = start ∧ win.endLba.toNat = start + w.count ∧
      win.isWrite = isWrite := by
  obtain ⟨-, start', hstart', -, -, rfl⟩ := armedWindow_eq_some.mp h
  obtain rfl : start = start' := Option.some.inj (hstart.symm.trans hstart')
  have hlow : start < 2 ^ 32 := by omega
  simp only [BitVec.toNat_ofNat, Nat.mod_eq_of_lt hlow, Nat.mod_eq_of_lt hfit, and_self]

/-- Settles O45, by the bound of each addressing mode and of the count. -/
theorem theDmaWindowFitsItsWidth : Obligations.TheDmaWindowFitsItsWidth := by
  intro D w start hg hstart
  have hend := CommandWord.startLba_add_count_le hg hstart
  refine ⟨fun hm => CommandWord.startLba_le_of_lbaMode hm hstart,
    fun hm => CommandWord.startLba_le_of_chsMode hg hm hstart, hend, fun isWrite win hwin => ?_⟩
  obtain ⟨hs, hc, he, hw⟩ := armedWindow_fields hstart (by omega) hwin
  have hcount := w.count_bounds.1
  exact ⟨hs, hc, he, by omega, hw⟩

end Sys2Proof.Machine
end

section
/-! PROOFS. Who changes a device's settings: its transfer modes, its geometry and its slot's mode sets (10_state R43, R48;
45_pio_and_addressing R434; 40_driver_capability R172). -/

namespace Sys2Proof.Machine

/-! ### The settings of a device -/

/-- The part of a device that SET FEATURES, INITIALIZE DEVICE PARAMETERS, soft reset and ATTACH speak of. -/
structure Settings where
  pioMode : BitVec 3
  dmaMode : Option (DmaKind × BitVec 3)
  geometry : Option Geometry
  modes : ModeSets

/-- The settings a device holds. -/
def Device.settings (D : Device) : Settings :=
  { pioMode := D.pioMode, dmaMode := D.dmaMode, geometry := D.geometry, modes := D.modes }

/-- The settings that a reset or an attachment gives a device of a driver: no mode selected, the driver's own geometry
(70_reset_and_hazards R602, 40_driver_capability R172). -/
def initialSettings (drv : Driver) (modes : ModeSets) : Settings :=
  { pioMode := 0, dmaMode := none, geometry := drv.defaultGeometry, modes := modes }

theorem Device.settings_eq_iff {D : Device} {S : Settings} :
    D.settings = S ↔ D.pioMode = S.pioMode ∧ D.dmaMode = S.dmaMode ∧ D.geometry = S.geometry ∧ D.modes = S.modes := by
  cases S
  simp [Device.settings]

@[simp] theorem Device.afterRead_settings (D : Device) (n : Nat) : (D.afterRead n).settings = D.settings := by
  simp [Device.settings]
@[simp] theorem Device.writeBuffer_settings (D : Device) (v : BitVec 32) (n : Nat) :
    (D.writeBuffer v n).settings = D.settings := by simp [Device.settings]
@[simp] theorem Device.fill_settings (D : Device) (b : Block) : (D.fill b).settings = D.settings := by
  simp [Device.settings]
@[simp] theorem Device.rewind_settings (D : Device) : D.rewind.settings = D.settings := by
  simp [Device.settings]
@[simp] theorem Device.drain_settings (D : Device) : D.drain.settings = D.settings := by
  simp [Device.settings]
@[simp] theorem Device.arm_settings (D : Device) (w : DmaWindow) : (D.arm w).settings = D.settings := by
  simp [Device.settings]
@[simp] theorem Device.endDma_settings (D : Device) : D.endDma.settings = D.settings := by
  simp [Device.settings]
@[simp] theorem Device.advance_settings (D : Device) : D.advance.settings = D.settings := by
  simp [Device.settings]
@[simp] theorem Device.storeSector_settings (D : Device) (bs : List Byte) : (D.storeSector bs).settings = D.settings := by
  simp [Device.settings]
@[simp] theorem Device.changeMedium_settings (D : Device) (m : Medium) : (D.changeMedium m).settings = D.settings := by
  simp [Device.settings]
@[simp] theorem Device.defaultSettings_settings (D : Device) :
    D.defaultSettings.settings = initialSettings D.driver D.modes := by
  simp [initialSettings, Device.settings]
@[simp] theorem Device.attach_settings (D : Device) (drv : Driver) :
    (D.attach drv).settings = initialSettings drv D.modes := by simp [initialSettings, Device.settings]

/-- A device replaced by one with its settings leaves the settings of both slots. -/
@[simp] theorem setDev_settings {s : State} {d d' : Slot} {v : Device} (h : v.settings = (s.dev d).settings) :
    ((s.setDev d v).dev d').settings = (s.dev d').settings := by
  rw [State.setDev_dev]
  split
  · subst d'; exact h
  · rfl

/-! ### Effects that keep the settings -/

/-- The effect leaves the settings of both devices as they are. -/
def KeepsSettings (f : State → State) : Prop := ∀ (s : State) (d : Slot), ((f s).dev d).settings = (s.dev d).settings

theorem KeepsSettings.atomically {f : State → State} {s t : State} (hf : KeepsSettings f)
    (h : atomically f s = .next t) (d : Slot) : (t.dev d).settings = (s.dev d).settings := by
  obtain ⟨-, rfl⟩ := atomically_next.mp h
  simp [hf _ d]

theorem KeepsSettings.whenAllowed {allowed : Bool} {f : State → State} {s t : State} (hf : KeepsSettings f)
    (h : whenAllowed allowed f s = .next t) (d : Slot) : (t.dev d).settings = (s.dev d).settings := by
  obtain ⟨-, -, rfl⟩ := whenAllowed_next.mp h
  simp [hf _ d]

/-- A Command write leaves a device alone, or leaves it as its command does. -/
theorem commandWrite_dev {v : Byte} {run : State → State} {s t : State} (h : commandWrite v run s = .next t) (d : Slot) :
    t.dev d = s.dev d ∨
      t.dev d = (run (((s.setReply .none).setRegs { s.regs with command := v }).setInt false)).dev d := by
  obtain ⟨-, ⟨-, rfl⟩ | ⟨-, -, rfl⟩ | ⟨-, -, rfl⟩⟩ := commandWrite_next h
  · exact .inl (by simp)
  · exact .inl (by simp)
  · exact .inr (by simp)

theorem KeepsSettings.commandWrite {v : Byte} {run : State → State} {s t : State} (hf : KeepsSettings run)
    (h : commandWrite v run s = .next t) (d : Slot) : (t.dev d).settings = (s.dev d).settings := by
  rcases commandWrite_dev h d with hd | hd
  · rw [hd]
  · simp [hd, hf _ d]

/-! ### The commands -/

theorem startCommand_keepsSettings {v : Byte} {proto : Proto} {execute : Command → State → State}
    (h : ∀ c, KeepsSettings (execute c)) : KeepsSettings (startCommand v proto execute) := by
  intro s d
  simp [startCommand, h _ _ d]

theorem identifyWith_settings (c : Command) (record : Option Block) (s : State) (d : Slot) :
    ((identifyWith c record s).dev d).settings = (s.dev d).settings := by
  cases record <;> simp [identifyWith]

theorem identifyDevice_keepsSettings (c : Command) : KeepsSettings (identifyDevice c) :=
  fun _ _ => identifyWith_settings _ _ _ _

theorem identifyPacketDevice_keepsSettings (c : Command) : KeepsSettings (identifyPacketDevice c) :=
  fun _ _ => identifyWith_settings _ _ _ _

theorem securityUnlock_keepsSettings (c : Command) : KeepsSettings (securityUnlock c) := by
  intro s d
  simp [securityUnlock]

theorem dmaCommand_keepsSettings (isWrite : Bool) (c : Command) : KeepsSettings (dmaCommand isWrite c) := by
  intro s d
  unfold dmaCommand
  split <;> simp

theorem packet_keepsSettings : KeepsSettings packet := by
  intro s d
  simp [packet]

theorem unsupportedCommand_keepsSettings (v : Byte) : KeepsSettings (unsupportedCommand v) := by
  intro s d
  unfold unsupportedCommand
  split <;> simp

/-- Of all Command writes only those of 0x91 and 0xEF can run a command that changes settings. -/
theorem dispatch_keepsSettings {v : Byte} (hinit : v ≠ 0x91) (hset : v ≠ 0xEF) : KeepsSettings (dispatch v) := by
  unfold dispatch
  rw [if_neg hinit, if_neg hset]
  split_ifs
  · exact startCommand_keepsSettings identifyDevice_keepsSettings
  · exact startCommand_keepsSettings identifyPacketDevice_keepsSettings
  · exact startCommand_keepsSettings securityUnlock_keepsSettings
  · exact startCommand_keepsSettings (dmaCommand_keepsSettings false)
  · exact startCommand_keepsSettings (dmaCommand_keepsSettings true)
  · exact packet_keepsSettings
  · exact unsupportedCommand_keepsSettings v

/-! ### Register accesses -/

theorem pioInComplete_keepsSettings (c : Command) : KeepsSettings (pioInComplete c) := by
  intro s d
  simp [pioInComplete]

theorem pioOutComplete_keepsSettings (c : Command) : KeepsSettings (pioOutComplete c) := by
  intro s d
  simp [pioOutComplete]

theorem rdData_keepsSettings (n : Width) : KeepsSettings (rdData n) := by
  intro s d
  unfold rdData
  split
  · simp
  · dsimp only
    split
    · simp [pioInComplete_keepsSettings _ _ d]
    · simp

theorem wrData_keepsSettings (n : Width) (v : BitVec 32) : KeepsSettings (wrData n v) := by
  intro s d
  unfold wrData
  split
  · simp
  · dsimp only
    split
    · simp [pioOutComplete_keepsSettings _ _ d]
    · simp

theorem rdReg_keepsSettings (f : Regs → Byte) : KeepsSettings (rdReg f) := by
  intro s d
  simp [rdReg]

theorem rdStatus_keepsSettings : KeepsSettings rdStatus := by
  intro s d
  simp [rdStatus, rdReg]

theorem wrTask_keepsSettings (reg : TaskReg) (v : Byte) : KeepsSettings (wrTask reg v) := by
  intro s d
  unfold wrTask
  split_ifs <;> simp

theorem refuse_keepsSettings (r : RefuseReason) : KeepsSettings (·.refuse r) := by
  intro s d
  simp

@[simp] theorem abandonCommand_dev (s : State) (d : Slot) : (abandonCommand s).dev d = s.dev d := by
  unfold abandonCommand
  split <;> simp

theorem softResetAssert_keepsSettings : KeepsSettings softResetAssert := by
  intro s d
  cases d <;> simp [softResetAssert, ← State.dev_master, ← State.dev_slave]

/-- The release of soft reset gives both devices their default settings (70_reset_and_hazards R602). -/
theorem softResetRelease_dev (s : State) (d : Slot) : (softResetRelease s).dev d = (s.dev d).defaultSettings := by
  cases d <;> rfl

/-! ### The bus master -/

theorem dmaComplete_keepsSettings (ok : Bool) : KeepsSettings (dmaComplete ok) := by
  intro s d
  unfold dmaComplete
  split <;> simp

theorem afterSector_settings (d : Slot) (answer : Reply) (moved : Bool × State) (d' : Slot) :
    ((afterSector d answer moved).dev d').settings = (moved.2.dev d').settings := by
  unfold afterSector
  split_ifs <;> simp [dmaComplete_keepsSettings _ _ d']

theorem readDmaSector_settings (d : Slot) (s : State) (d' : Slot) :
    ((readDmaSector d s).2.dev d').settings = (s.dev d').settings := by
  obtain ⟨s', rfl, -, -, h⟩ | ⟨s', rfl | rfl, h⟩ := readDmaSector_cases d s <;> simp [h]

theorem writeDmaSector_settings (d : Slot) (buf : List Byte) (s : State) (d' : Slot) :
    ((writeDmaSector d buf s).2.dev d').settings = (s.dev d').settings := by
  obtain ⟨-, -, h⟩ | ⟨-, -, h⟩ | ⟨-, h⟩ := writeDmaSector_cases d buf s <;> simp [h]

theorem dmaReadSector_keepsSettings (d : Slot) : KeepsSettings (dmaReadSector d) := by
  intro s d'
  unfold dmaReadSector
  split
  · simp
  · rw [afterSector_settings, readDmaSector_settings]

theorem dmaWriteSector_keepsSettings (d : Slot) (buf : List Byte) : KeepsSettings (dmaWriteSector d buf) := by
  intro s d'
  unfold dmaWriteSector
  split
  · simp
  · split
    · rw [afterSector_settings, writeDmaSector_settings]
    · simp

theorem dmaAbort_keepsSettings (d : Slot) : KeepsSettings (dmaAbort d) := by
  intro s d'
  unfold dmaAbort
  split
  · simp
  · split
    · simp [dmaComplete_keepsSettings _ _ d']
    · simp

theorem dmaQuery_keepsSettings (d : Slot) : KeepsSettings (dmaQuery d) := by
  intro s d'
  simp [dmaQuery]

/-! ### The medium environment -/

theorem changeMedium_keepsSettings (d : Slot) (m : Medium) : KeepsSettings fun s => s.setDev d ((s.dev d).changeMedium m) := by
  intro s d'
  simp

/-! ### The operations that change settings -/

/-- The bits of the operand word are those of the registers, Command in the lowest byte (30_encoding R102). -/
theorem commandWord_getLsbD (r : Regs) (k : Nat) :
    r.commandWord.getLsbD k =
      if k < 8 then r.command.getLsbD k
      else if k < 16 then r.features.getLsbD (k - 8)
      else if k < 24 then r.sectorCount.getLsbD (k - 16)
      else if k < 32 then r.sectorNumber.getLsbD (k - 24)
      else if k < 40 then r.cylLow.getLsbD (k - 32)
      else if k < 48 then r.cylHigh.getLsbD (k - 40)
      else r.devHead.getLsbD (k - 48) := by
  change BitVec.getLsbD (w := 8 + 8 + 8 + 8 + 8 + 8 + 8) (r.devHead ++ r.cylHigh ++ r.cylLow ++ r.sectorNumber ++
    r.sectorCount ++ r.features ++ r.command) k = _
  simp only [BitVec.getLsbD_append, Nat.sub_sub]
  grind

/-- The Features field of the operand word is the Features register (30_encoding R102). -/
theorem commandWord_feat (r : Regs) : r.commandWord.feat = r.features := by
  apply BitVec.eq_of_getLsbD_eq
  intro k hk
  have h : 8 + k < 16 := by omega
  simp [CommandWord.feat, commandWord_getLsbD, hk, h]

/-- The device field of the operand word is Device/Head bit 4 (30_encoding R116). -/
theorem commandWord_dev (r : Regs) : r.commandWord.dev = if r.devHead.getLsbD 4 then .slave else .master := by
  rw [CommandWord.dev, commandWord_getLsbD]
  rfl
/-- All that INITIALIZE DEVICE PARAMETERS can do: fail and change nothing, or store the geometry of its operands. -/
theorem initializeStep_cases (c : Command) (s : State) :
    initializeStep c s = (false, s) ∨
      (s.regs.commandWord.spt ≠ 0 ∧
        (s.dev c.d).driver.setParamsOk s.regs.commandWord.heads s.regs.commandWord.spt = true ∧
        initializeStep c s = (true, s.setDev c.d { s.dev c.d with
          geometry := some { heads := s.regs.commandWord.heads, spt := s.regs.commandWord.spt } })) := by
  unfold initializeStep
  dsimp only
  split_ifs with hspt hok
  · exact .inl rfl
  · exact .inr ⟨hspt, hok, rfl⟩
  · exact .inl rfl

/-- What one operation can make of the settings of device `d`: keep them; select one mode; store a geometry; or load the
initial settings, at the release of soft reset or with a new driver. -/
inductive SettingsStep (i : Instr) (s : State) (d : Slot) : Settings → Prop where
  /-- No change. -/
  | kept : SettingsStep i s d (s.dev d).settings
  /-- SET FEATURES selects a PIO mode on the selected device (43_ata_commands R320). -/
  | pioMode (m : BitVec 3) (hi : i = .setFeatures ∨ i = .wrCommand 0xEF) (hf : s.regs.features = 0x03)
      (hd : d = s.selected) : SettingsStep i s d { (s.dev d).settings with pioMode := m }
  /-- SET FEATURES selects a DMA mode on the selected device (43_ata_commands R320). -/
  | dmaMode (k : DmaKind) (m : BitVec 3) (hi : i = .setFeatures ∨ i = .wrCommand 0xEF) (hf : s.regs.features = 0x03)
      (hd : d = s.selected) : SettingsStep i s d { (s.dev d).settings with dmaMode := some (k, m) }
  /-- INITIALIZE DEVICE PARAMETERS stores a geometry on the selected device (43_ata_commands R315). -/
  | geometry (g : Geometry) (hi : i = .initializeDeviceParameters ∨ i = .wrCommand 0x91) (hd : d = s.selected) :
      SettingsStep i s d { (s.dev d).settings with geometry := some g }
  /-- The falling edge of SRST releases soft reset (70_reset_and_hazards R602). -/
  | released (v : Byte) (hi : i = .wrDevCtl v) (hold : s.regs.devCtl.getLsbD 2 = true) (hnew : v.getLsbD 2 = false) :
      SettingsStep i s d (initialSettings (s.dev d).driver (s.dev d).modes)
  /-- ATTACH puts a driver into the slot (40_driver_capability R172). -/
  | attached (drv : Driver) (hi : i = .attach d drv) : SettingsStep i s d (initialSettings drv (s.dev d).modes)

theorem SettingsStep.of_eq {i : Instr} {s : State} {d : Slot} {S : Settings} (h : S = (s.dev d).settings) :
    SettingsStep i s d S := h ▸ .kept

/-- The step of SET FEATURES, on a state `u` whose devices are those of `s`. -/
theorem SettingsStep.of_setFeaturesStep {i : Instr} {s u : State} {c : Command}
    (hi : i = .setFeatures ∨ i = .wrCommand 0xEF) (hdev : ∀ d, u.dev d = s.dev d) (hfeat : c.feat = s.regs.features)
    (hc : c.d = s.selected) (d : Slot) : SettingsStep i s d ((setFeaturesStep c u).2.dev d).settings := by
  obtain ⟨m, h⟩ | ⟨hf, -, ⟨m, -, -, h⟩ | ⟨k, m, -, -, h⟩⟩ := setFeaturesStep_cases c u
  · exact .of_eq (by simp [h, hdev])
  · rw [h, State.setDev_dev]
    split
    · subst d
      rw [hdev]
      exact .pioMode m hi (hfeat ▸ hf) hc
    · exact .of_eq (by rw [hdev])
  · rw [h, State.setDev_dev]
    split
    · subst d
      rw [hdev]
      exact .dmaMode k m hi (hfeat ▸ hf) hc
    · exact .of_eq (by rw [hdev])

/-- The step of INITIALIZE DEVICE PARAMETERS, on a state `u` whose devices are those of `s`. -/
theorem SettingsStep.of_initializeStep {i : Instr} {s u : State} {c : Command}
    (hi : i = .initializeDeviceParameters ∨ i = .wrCommand 0x91) (hdev : ∀ d, u.dev d = s.dev d)
    (hc : c.d = s.selected) (d : Slot) : SettingsStep i s d ((initializeStep c u).2.dev d).settings := by
  obtain h | ⟨-, -, h⟩ := initializeStep_cases c u
  · exact .of_eq (by simp [h, hdev])
  · rw [h, State.setDev_dev]
    split
    · subst d
      rw [hdev]
      exact .geometry _ hi hc
    · exact .of_eq (by rw [hdev])

/-- A Command write of 0xEF (43_ata_commands R320). -/
theorem SettingsStep.of_setFeatures {i : Instr} {s t : State} (hi : i = .setFeatures ∨ i = .wrCommand 0xEF)
    (h : commandWrite 0xEF (startCommand 0xEF .nonData setFeatures) s = .next t) (d : Slot) :
    SettingsStep i s d (t.dev d).settings := by
  rcases commandWrite_dev h d with hd | hd
  · rw [hd]
    exact .kept
  · rw [hd, startCommand, setFeatures, nonDataExecute, complete_dev]
    exact .of_setFeaturesStep hi (by simp) (commandWord_feat _) (commandWord_dev _) d

/-- A Command write of 0x91 (43_ata_commands R315). -/
theorem SettingsStep.of_initializeDeviceParameters {i : Instr} {s t : State}
    (hi : i = .initializeDeviceParameters ∨ i = .wrCommand 0x91)
    (h : commandWrite 0x91 (startCommand 0x91 .nonData initializeDeviceParameters) s = .next t) (d : Slot) :
    SettingsStep i s d (t.dev d).settings := by
  rcases commandWrite_dev h d with hd | hd
  · rw [hd]
    exact .kept
  · rw [hd, startCommand, initializeDeviceParameters, nonDataExecute, complete_dev]
    exact .of_initializeStep hi (by simp) (commandWord_dev _) d

/-- A write of the Command register, by its byte (42_command_engine R250). -/
theorem SettingsStep.of_wrCommand {v : Byte} {s t : State} (h : exec (.wrCommand v) s = .next t) (d : Slot) :
    SettingsStep (.wrCommand v) s d (t.dev d).settings := by
  by_cases hset : v = 0xEF
  · subst hset
    exact .of_setFeatures (.inr rfl) h d
  by_cases hinit : v = 0x91
  · subst hinit
    exact .of_initializeDeviceParameters (.inr rfl) h d
  · exact .of_eq ((dispatch_keepsSettings hinit hset).commandWrite h d)

/-- A write of Device Control, by the edge of SRST (41_register_access R217). -/
theorem SettingsStep.of_wrDevCtl {v : Byte} {s t : State} (h : exec (.wrDevCtl v) s = .next t) (d : Slot) :
    SettingsStep (.wrDevCtl v) s d (t.dev d).settings := by
  obtain ⟨-, rfl⟩ := atomically_next.mp h
  rw [settle_dev]
  unfold wrDevCtl
  dsimp only
  split_ifs with hrise hfall
  · exact .of_eq (by simp [softResetAssert_keepsSettings _ d])
  · obtain ⟨hold, hnew⟩ := hfall
    rw [softResetRelease_dev]
    simpa using SettingsStep.released (s := s) (d := d) v rfl hold hnew
  · exact .of_eq (by simp)

/-- ATTACH gives the initial settings to its own slot and leaves the other one (40_driver_capability R172). -/
theorem SettingsStep.of_attach {d' : Slot} {drv : Driver} {s t : State} (h : exec (.attach d' drv) s = .next t)
    (d : Slot) : SettingsStep (.attach d' drv) s d (t.dev d).settings := by
  obtain ⟨-, -, rfl⟩ := whenAllowed_next.mp h
  rw [settle_dev, State.setDev_dev]
  split
  · subst d
    simpa using SettingsStep.attached (s := s) drv rfl
  · exact .of_eq (by simp)

/-- All that an operation can do to the settings of a device. -/
theorem exec_settingsStep {i : Instr} {s t : State} (h : exec i s = .next t) (d : Slot) :
    SettingsStep i s d (t.dev d).settings := by
  cases i with
  | rdDataB | rdDataW | rdDataD => exact .of_eq ((rdData_keepsSettings _).atomically h d)
  | wrDataB | wrDataW | wrDataD => exact .of_eq ((wrData_keepsSettings _ _).atomically h d)
  | rdError | rdSectorCount | rdSectorNumber | rdCylLow | rdCylHigh | rdDeviceHead | rdAltStatus =>
    exact .of_eq ((rdReg_keepsSettings _).atomically h d)
  | rdStatus => exact .of_eq (rdStatus_keepsSettings.atomically h d)
  | wrFeatures | wrSectorCount | wrSectorNumber | wrCylLow | wrCylHigh | wrDeviceHead =>
    exact .of_eq ((wrTask_keepsSettings _ _).atomically h d)
  | wrCommand => exact .of_wrCommand h d
  | wrDevCtl => exact .of_wrDevCtl h d
  | refusedWidth | refusedAccess => exact .of_eq ((refuse_keepsSettings _).atomically h d)
  | identifyDevice => exact .of_eq ((startCommand_keepsSettings identifyDevice_keepsSettings).commandWrite h d)
  | identifyPacketDevice =>
    exact .of_eq ((startCommand_keepsSettings identifyPacketDevice_keepsSettings).commandWrite h d)
  | initializeDeviceParameters => exact .of_initializeDeviceParameters (.inl rfl) h d
  | setFeatures => exact .of_setFeatures (.inl rfl) h d
  | securityUnlock => exact .of_eq ((startCommand_keepsSettings securityUnlock_keepsSettings).commandWrite h d)
  | readDma => exact .of_eq ((startCommand_keepsSettings (dmaCommand_keepsSettings false)).commandWrite h d)
  | writeDma => exact .of_eq ((startCommand_keepsSettings (dmaCommand_keepsSettings true)).commandWrite h d)
  | packet => exact .of_eq (packet_keepsSettings.commandWrite h d)
  | nop | deviceReset | readSectors | readSectorsWithoutRetry | writeSectors | writeSectorsWithoutRetry
  | readVerifySectors | readVerifySectorsWithoutRetry | seek | executeDeviceDiagnostic | downloadMicrocode | service
  | smart | readMultiple | writeMultiple | setMultipleMode | readDmaQueued | readDmaWithoutRetry
  | writeDmaWithoutRetry | writeDmaQueued | mediaLock | mediaUnlock | standbyImmediate | idleImmediate | standby | idle
  | readBuffer | checkPowerMode | sleep | flushCache | writeBuffer | mediaEject | securitySetPassword
  | securityErasePrepare | securityEraseUnit | securityFreezeLock | securityDisablePassword | readNativeMaxAddress
  | setMaxAddress | unsupportedOther =>
    exact .of_eq ((unsupportedCommand_keepsSettings _).commandWrite h d)
  | dmaReadSector => exact .of_eq ((dmaReadSector_keepsSettings _).atomically h d)
  | dmaWriteSector => exact .of_eq ((dmaWriteSector_keepsSettings _ _).atomically h d)
  | dmaAbort => exact .of_eq ((dmaAbort_keepsSettings _).atomically h d)
  | dmaQuery => exact .of_eq ((dmaQuery_keepsSettings _).atomically h d)
  | mediumChange d' present capacity img =>
    exact .of_eq ((changeMedium_keepsSettings d' (newMedium present capacity img)).whenAllowed h d)
  | attach => exact .of_attach h d

/-- Settles O18, by the cases of `SettingsStep`. -/
theorem onlyTheseOperationsChangeModesAndGeometry : Obligations.OnlyTheseOperationsChangeModesAndGeometry := by
  intro i s t d h
  dsimp only
  have hstep := exec_settingsStep h d
  generalize hS : (t.dev d).settings = S at hstep
  obtain ⟨hpio, hdma, hgeom, hmodes⟩ := Device.settings_eq_iff.mp hS
  rw [hpio, hdma, hgeom, hmodes]
  cases hstep with
  | kept => exact ⟨.inl ⟨rfl, rfl⟩, .inl rfl, rfl⟩
  | pioMode m hi hf hd => exact ⟨.inr (.inr ⟨hi, hf, hd, .inr rfl⟩), .inl rfl, rfl⟩
  | dmaMode k m hi hf hd => exact ⟨.inr (.inr ⟨hi, hf, hd, .inl rfl⟩), .inl rfl, rfl⟩
  | geometry g hi hd => exact ⟨.inl ⟨rfl, rfl⟩, .inr (.inr ⟨hi, hd⟩), rfl⟩
  | released v hi hold hnew =>
    exact ⟨.inr (.inl (.inl ⟨v, hi, hold, hnew⟩)), .inr (.inl (.inl ⟨v, hi, hold, hnew⟩)), rfl⟩
  | attached drv hi => exact ⟨.inr (.inl (.inr ⟨drv, hi⟩)), .inr (.inl (.inr ⟨drv, hi⟩)), rfl⟩

end Sys2Proof.Machine
end

section
/-! PROOFS. Every operation as one guarded effect on the state: the layer that the statements about all operations share
(00_scope R13, 41_register_access R200, 42_command_engine R250). -/

namespace Sys2Proof.Machine

/-! ### The effects -/

/-- What a write of the Command register does as one effect (41_register_access R215). -/
def commandEffect (v : Byte) (run : State → State) (s : State) : State :=
  if s.srst then s.raiseFault .hostWriteDuringReset
  else if s.cur.isSome then s.raiseFault .commandWhileInFlight
  else run ((s.setRegs { s.regs with command := v }).setInt false)

/-- All that a Command write can do: fault with nothing else changed, or latch the byte, acknowledge the interrupt and run
the command on a channel without one. -/
theorem commandEffect_cases (v : Byte) (run : State → State) (s : State) :
    (∃ r, commandEffect v run s = s.raiseFault r) ∨
      (s.srst = false ∧ s.cur = none ∧
        commandEffect v run s = run ((s.setRegs { s.regs with command := v }).setInt false)) := by
  unfold commandEffect
  split_ifs with hs hc
  · exact .inl ⟨_, rfl⟩
  · exact .inl ⟨_, rfl⟩
  · exact .inr ⟨by simpa using hs, by simpa using hc, rfl⟩

/-- A rising edge of SRST asserts soft reset (41_register_access R217). -/
theorem wrDevCtl_of_rise {v : Byte} {s : State} (h : Machine.srst s.regs.devCtl = false ∧ Machine.srst v = true) :
    wrDevCtl v s = softResetAssert (s.setRegs { s.regs with devCtl := v }) := if_pos h

/-- A falling edge of SRST releases soft reset (41_register_access R217). -/
theorem wrDevCtl_of_fall {v : Byte} {s : State} (h : Machine.srst s.regs.devCtl = true ∧ Machine.srst v = false) :
    wrDevCtl v s = softResetRelease (s.setRegs { s.regs with devCtl := v }) := by
  have hrise : ¬(Machine.srst s.regs.devCtl = false ∧ Machine.srst v = true) := by simp [h]
  exact (if_neg hrise).trans (if_pos h)

/-- Without an edge of SRST a Device Control write stores its byte alone (41_register_access R217). -/
theorem wrDevCtl_of_level {v : Byte} {s : State} (hrise : ¬(Machine.srst s.regs.devCtl = false ∧ Machine.srst v = true))
    (hfall : ¬(Machine.srst s.regs.devCtl = true ∧ Machine.srst v = false)) :
    wrDevCtl v s = s.setRegs { s.regs with devCtl := v } := (if_neg hrise).trans (if_neg hfall)

/-- What a command byte runs: its handler, the refusal of PACKET, or what every unsupported byte does. -/
inductive CommandRun : Byte → (State → State) → Prop where
  | identifyDevice : CommandRun 0xEC (startCommand 0xEC .pioIn identifyDevice)
  | identifyPacketDevice : CommandRun 0xA1 (startCommand 0xA1 .pioIn identifyPacketDevice)
  | initializeDeviceParameters : CommandRun 0x91 (startCommand 0x91 .nonData initializeDeviceParameters)
  | setFeatures : CommandRun 0xEF (startCommand 0xEF .nonData setFeatures)
  | securityUnlock : CommandRun 0xF2 (startCommand 0xF2 .pioOut securityUnlock)
  | readDma : CommandRun 0xC8 (startCommand 0xC8 .dma readDma)
  | writeDma : CommandRun 0xCA (startCommand 0xCA .dma writeDma)
  | packet : CommandRun 0xA0 packet
  | unsupported (v : Byte) : CommandRun v (unsupportedCommand v)

/-- The command table runs one of these for every byte (42_command_engine R250). -/
theorem CommandRun.dispatch (v : Byte) : CommandRun v (dispatch v) := by
  unfold Machine.dispatch
  split_ifs
  case pos h => subst h; exact .identifyDevice
  case pos h => subst h; exact .identifyPacketDevice
  case pos h => subst h; exact .initializeDeviceParameters
  case pos h => subst h; exact .setFeatures
  case pos h => subst h; exact .securityUnlock
  case pos h => subst h; exact .readDma
  case pos h => subst h; exact .writeDma
  case pos h => subst h; exact .packet
  case neg => exact .unsupported v

/-- The operation that writes a task-file register (41_register_access R216). -/
def TaskReg.write (reg : TaskReg) (v : Byte) : Instr :=
  match reg with
  | .features => .wrFeatures v
  | .sectorCount => .wrSectorCount v
  | .sectorNumber => .wrSectorNumber v
  | .cylLow => .wrCylLow v
  | .cylHigh => .wrCylHigh v
  | .devHead => .wrDeviceHead v

/-- The operation writes `v` to the Command register, as a register access or as a command (30_encoding R102). -/
def WritesCommand (i : Instr) (v : Byte) : Prop :=
  i = .wrCommand v ∨ ((encode i).format = .cmd ∧ (encode i).code = v)

/-- The effect of each operation.  An operation is named where the effect is its own. -/
inductive Effect : Instr → (State → State) → Prop where
  | readData (i : Instr) (n : Width) : Effect i (rdData n)
  | writeData (i : Instr) (n : Width) (v : BitVec 32) : Effect i (wrData n v)
  | readReg (i : Instr) (f : Regs → Byte) : Effect i (rdReg f)
  | readStatus : Effect .rdStatus rdStatus
  | writeTask (reg : TaskReg) (v : Byte) : Effect (reg.write v) (wrTask reg v)
  | writeDevCtl (v : Byte) : Effect (.wrDevCtl v) (wrDevCtl v)
  | refuse (i : Instr) (r : RefuseReason) : Effect i (·.refuse r)
  | command {i : Instr} {v : Byte} {run : State → State} (hi : WritesCommand i v) (hrun : CommandRun v run) :
      Effect i (commandEffect v run)
  | readSector (d : Slot) : Effect (.dmaReadSector d) (dmaReadSector d)
  | writeSector (d : Slot) (buf : List Byte) : Effect (.dmaWriteSector d buf) (dmaWriteSector d buf)
  | abort (d : Slot) : Effect (.dmaAbort d) (dmaAbort d)
  | query (d : Slot) : Effect (.dmaQuery d) (dmaQuery d)
  | mediumChange (d : Slot) (present : Bool) (capacity : Lba) (img : Memory) :
      Effect (.mediumChange d present capacity img)
        (fun s => s.setDev d ((s.dev d).changeMedium (newMedium present capacity img)))
  | attach (d : Slot) (drv : Driver) : Effect (.attach d drv) (fun s => s.setDev d ((s.dev d).attach drv))

/-- The condition of its own under which an operation is enabled; only an environment operation has one
(40_driver_capability R170, R172). -/
def envAllowed (i : Instr) (s : State) : Bool :=
  match i with
  | .mediumChange d _ _ _ => decide ((s.dev d).driver.kind = .dvd)
  | .attach d drv => s.cur.isNone && decide (drv.id ≠ (s.dev d.other).driver.id)
  | _ => true

/-- The condition of an operation reads the current command and the devices alone. -/
theorem envAllowed_congr {s t : State} (i : Instr) (hdev : ∀ d, t.dev d = s.dev d) (hcur : t.cur = s.cur) :
    envAllowed i t = envAllowed i s := by
  cases i with
  | mediumChange => simp only [envAllowed, hdev]
  | attach => simp only [envAllowed, hdev, hcur]
  | _ => rfl

/-- Every operation is one effect, guarded by its own condition. -/
theorem exec_effect (i : Instr) : ∃ f, Effect i f ∧ ∀ s, exec i s = whenAllowed (envAllowed i s) f s := by
  cases i with
  | rdDataB | rdDataW | rdDataD => exact ⟨_, .readData _ _, fun _ => rfl⟩
  | wrDataB | wrDataW | wrDataD => exact ⟨_, .writeData _ _ _, fun _ => rfl⟩
  | rdError | rdSectorCount | rdSectorNumber | rdCylLow | rdCylHigh | rdDeviceHead | rdAltStatus =>
    exact ⟨_, .readReg _ _, fun _ => rfl⟩
  | rdStatus => exact ⟨_, .readStatus, fun _ => rfl⟩
  | wrFeatures v => exact ⟨_, .writeTask .features v, fun _ => rfl⟩
  | wrSectorCount v => exact ⟨_, .writeTask .sectorCount v, fun _ => rfl⟩
  | wrSectorNumber v => exact ⟨_, .writeTask .sectorNumber v, fun _ => rfl⟩
  | wrCylLow v => exact ⟨_, .writeTask .cylLow v, fun _ => rfl⟩
  | wrCylHigh v => exact ⟨_, .writeTask .cylHigh v, fun _ => rfl⟩
  | wrDeviceHead v => exact ⟨_, .writeTask .devHead v, fun _ => rfl⟩
  | wrCommand v => exact ⟨_, .command (.inl rfl) (.dispatch v), fun _ => rfl⟩
  | wrDevCtl v => exact ⟨_, .writeDevCtl v, fun _ => rfl⟩
  | refusedWidth | refusedAccess => exact ⟨_, .refuse _ _, fun _ => rfl⟩
  | identifyDevice => exact ⟨_, .command (.inr ⟨rfl, rfl⟩) .identifyDevice, fun _ => rfl⟩
  | identifyPacketDevice => exact ⟨_, .command (.inr ⟨rfl, rfl⟩) .identifyPacketDevice, fun _ => rfl⟩
  | initializeDeviceParameters => exact ⟨_, .command (.inr ⟨rfl, rfl⟩) .initializeDeviceParameters, fun _ => rfl⟩
  | setFeatures => exact ⟨_, .command (.inr ⟨rfl, rfl⟩) .setFeatures, fun _ => rfl⟩
  | securityUnlock => exact ⟨_, .command (.inr ⟨rfl, rfl⟩) .securityUnlock, fun _ => rfl⟩
  | readDma => exact ⟨_, .command (.inr ⟨rfl, rfl⟩) .readDma, fun _ => rfl⟩
  | writeDma => exact ⟨_, .command (.inr ⟨rfl, rfl⟩) .writeDma, fun _ => rfl⟩
  | packet => exact ⟨_, .command (.inr ⟨rfl, rfl⟩) .packet, fun _ => rfl⟩
  | nop | deviceReset | readSectors | readSectorsWithoutRetry | writeSectors | writeSectorsWithoutRetry
  | readVerifySectors | readVerifySectorsWithoutRetry | seek | executeDeviceDiagnostic | downloadMicrocode | service
  | smart | readMultiple | writeMultiple | setMultipleMode | readDmaQueued | readDmaWithoutRetry
  | writeDmaWithoutRetry | writeDmaQueued | mediaLock | mediaUnlock | standbyImmediate | idleImmediate | standby | idle
  | readBuffer | checkPowerMode | sleep | flushCache | writeBuffer | mediaEject | securitySetPassword
  | securityErasePrepare | securityEraseUnit | securityFreezeLock | securityDisablePassword | readNativeMaxAddress
  | setMaxAddress | unsupportedOther =>
    exact ⟨_, .command (.inr ⟨rfl, rfl⟩) (.unsupported _), fun _ => rfl⟩
  | dmaReadSector d => exact ⟨_, .readSector d, fun _ => rfl⟩
  | dmaWriteSector d buf => exact ⟨_, .writeSector d buf, fun _ => rfl⟩
  | dmaAbort d => exact ⟨_, .abort d, fun _ => rfl⟩
  | dmaQuery d => exact ⟨_, .query d, fun _ => rfl⟩
  | mediumChange d present capacity img => exact ⟨_, .mediumChange d present capacity img, fun _ => rfl⟩
  | attach d drv => exact ⟨_, .attach d drv, fun _ => rfl⟩

/-- All that an operation can answer as a next state: the state is live, and the next one is that of the operation's effect,
with the interrupt line settled. -/
theorem exec_next {i : Instr} {s t : State} (h : exec i s = .next t) :
    ∃ f, Effect i f ∧ envAllowed i s = true ∧ s.live ∧ t = (f (s.setReply .none)).settle s := by
  obtain ⟨f, hf, heq⟩ := exec_effect i
  rw [heq, whenAllowed_next] at h
  exact ⟨f, hf, h⟩

/-! ### Quiescent states -/

/-- A step is a step of a live state. -/
theorem live_of_step {s t : State} (h : step s = .next t) : s.live := (whenEnabled_next.mp h).1

/-- An operation answers a next state in a live state only. -/
theorem live_of_exec {i : Instr} {s t : State} (h : exec i s = .next t) : s.live := by
  obtain ⟨-, -, -, hl, -⟩ := exec_next h
  exact hl

/-- Settles O8: a state with a record is not live, and power-on records only an ill-formed configuration. -/
theorem quiescentStatesHaveNoStep : Obligations.QuiescentStatesHaveNoStep := by
  refine ⟨fun s hs => ?_, fun cfg hwf => ⟨rfl, by simp [State.powerOn, hwf]⟩⟩
  have hdead : ¬s.live := fun hl => hs.elim (· hl.1) (· hl.2)
  exact ⟨fun t h => hdead (live_of_step h), fun i t h => hdead (live_of_exec h)⟩

end Sys2Proof.Machine
end

section
/-! PROOFS. The trace: every effect only appends to it and no effect reads it (10_state R54), and the line's edge is the last
event of every operation (10_state R35, 60_exceptions R515). -/

namespace Sys2Proof.Machine

/-! ### Another trace -/

/-- The state with another trace. -/
def State.withTrace (s : State) (l : List Event) : State := { s with trace := l }

@[simp] theorem State.withTrace_trace (s : State) (l : List Event) : (s.withTrace l).trace = l := rfl
@[simp] theorem State.withTrace_regs (s : State) (l : List Event) : (s.withTrace l).regs = s.regs := rfl
@[simp] theorem State.withTrace_cur (s : State) (l : List Event) : (s.withTrace l).cur = s.cur := rfl
@[simp] theorem State.withTrace_dev0 (s : State) (l : List Event) : (s.withTrace l).dev0 = s.dev0 := rfl
@[simp] theorem State.withTrace_dev1 (s : State) (l : List Event) : (s.withTrace l).dev1 = s.dev1 := rfl
@[simp] theorem State.withTrace_dev (s : State) (l : List Event) (d : Slot) : (s.withTrace l).dev d = s.dev d := by
  cases d <;> rfl
@[simp] theorem State.withTrace_unsupportedAborts (s : State) (l : List Event) :
    (s.withTrace l).unsupportedAborts = s.unsupportedAborts := rfl
@[simp] theorem State.withTrace_srst (s : State) (l : List Event) : (s.withTrace l).srst = s.srst := rfl
@[simp] theorem State.withTrace_openPhase (s : State) (l : List Event) (p : Proto) :
    (s.withTrace l).openPhase p = s.openPhase p := rfl
@[simp] theorem State.withTrace_drawBytes (s : State) (l : List Event) (n : Nat) :
    (s.withTrace l).drawBytes n = s.drawBytes n := rfl
@[simp] theorem State.withTrace_backendAnswer (s : State) (l : List Event) :
    (s.withTrace l).backendAnswer = s.backendAnswer := rfl
@[simp] theorem State.withTrace_withTrace (s : State) (l l' : List Event) :
    (s.withTrace l).withTrace l' = s.withTrace l' := rfl
theorem State.withTrace_self (s : State) : s.withTrace s.trace = s := rfl

@[simp] theorem checkWindow_withTrace (d : Slot) (w : Bool) (s : State) (l : List Event) :
    checkWindow d w (s.withTrace l) = checkWindow d w s := by cases d <;> rfl

/-! ### Updates commute with another trace -/

@[simp] theorem State.setRegs_withTrace (s : State) (l : List Event) (r : Regs) :
    (s.withTrace l).setRegs r = (s.setRegs r).withTrace l := rfl
@[simp] theorem State.setCur_withTrace (s : State) (l : List Event) (c : Option Command) :
    (s.withTrace l).setCur c = (s.setCur c).withTrace l := rfl
@[simp] theorem State.setInt_withTrace (s : State) (l : List Event) (b : Bool) :
    (s.withTrace l).setInt b = (s.setInt b).withTrace l := rfl
@[simp] theorem State.setReply_withTrace (s : State) (l : List Event) (r : Reply) :
    (s.withTrace l).setReply r = (s.setReply r).withTrace l := rfl
@[simp] theorem State.raiseFault_withTrace (s : State) (l : List Event) (r : FaultReason) :
    (s.withTrace l).raiseFault r = (s.raiseFault r).withTrace l := rfl
@[simp] theorem State.refuse_withTrace (s : State) (l : List Event) (r : RefuseReason) :
    (s.withTrace l).refuse r = (s.refuse r).withTrace l := rfl
@[simp] theorem State.skipDraws_withTrace (s : State) (l : List Event) (n : Nat) :
    (s.withTrace l).skipDraws n = (s.skipDraws n).withTrace l := rfl
@[simp] theorem State.afterBackendCall_withTrace (s : State) (l : List Event) :
    (s.withTrace l).afterBackendCall = s.afterBackendCall.withTrace l := rfl
@[simp] theorem State.setDev_withTrace (s : State) (l : List Event) (d : Slot) (v : Device) :
    (s.withTrace l).setDev d v = (s.setDev d v).withTrace l := by cases d <;> rfl

/-- An event put after another trace. -/
@[simp] theorem State.emit_withTrace (s : State) (l : List Event) (e : Event) :
    (s.withTrace l).emit e = (s.emit e).withTrace (l ++ [e]) := rfl
@[simp] theorem State.diag_withTrace (s : State) (l : List Event) (m : Diagnostic) :
    (s.withTrace l).diag m = (s.diag m).withTrace (l ++ [.diag m]) := rfl

@[simp] theorem enterDataPhase_withTrace (c : Command) (b : Bool) (s : State) (l : List Event) :
    enterDataPhase c b (s.withTrace l) = (enterDataPhase c b s).withTrace l := by cases b <;> rfl
@[simp] theorem complete_withTrace (c : Command) (ok : Bool) (s : State) (l : List Event) :
    complete c ok (s.withTrace l) = (complete c ok s).withTrace (l ++ [.cmdEnd c.opcode c.d (completionOf ok)]) := rfl
@[simp] theorem pioInComplete_withTrace (c : Command) (s : State) (l : List Event) :
    pioInComplete c (s.withTrace l) = (pioInComplete c s).withTrace (l ++ [.cmdEnd c.opcode c.d .success]) := rfl
@[simp] theorem newCommand_withTrace (v : Byte) (p : Proto) (s : State) (l : List Event) :
    newCommand v p (s.withTrace l) = newCommand v p s := rfl

/-! ### Effects that only log -/

/-- No event of the list is an edge of the interrupt line. -/
def Quiet (events : List Event) : Prop := ∀ e ∈ events, e ≠ .irqRise ∧ e ≠ .irqFall

@[simp] theorem Quiet.nil : Quiet [] := by simp [Quiet]

theorem Quiet.append {l l' : List Event} (h : Quiet l) (h' : Quiet l') : Quiet (l ++ l') :=
  fun e he => (List.mem_append.mp he).elim (h e) (h' e)

/-- From `s` the effect appends events to the trace, no edge among them, and does the same with any other trace. -/
def LogsAt (f : State → State) (s : State) : Prop :=
  ∃ events, Quiet events ∧ ∀ l, f (s.withTrace l) = (f s).withTrace (l ++ events)

/-- The effect only logs, from every state. -/
def Logs (f : State → State) : Prop := ∀ s, LogsAt f s

/-- An effect that does not touch the trace. -/
theorem LogsAt.of_silent {f : State → State} {s : State} (h : ∀ l, f (s.withTrace l) = (f s).withTrace l) :
    LogsAt f s := ⟨[], Quiet.nil, by simpa using h⟩

/-- An effect that appends one event. -/
theorem LogsAt.of_single {f : State → State} {s : State} {e : Event} (hq : e ≠ .irqRise ∧ e ≠ .irqFall)
    (h : ∀ l, f (s.withTrace l) = (f s).withTrace (l ++ [e])) : LogsAt f s :=
  ⟨[e], by simpa [Quiet] using hq, h⟩

/-- One effect after another. -/
theorem LogsAt.comp {f g : State → State} {s : State} (hf : LogsAt f s) (hg : LogsAt g (f s)) :
    LogsAt (fun u => g (f u)) s := by
  obtain ⟨l₁, hq₁, h₁⟩ := hf
  obtain ⟨l₂, hq₂, h₂⟩ := hg
  exact ⟨l₁ ++ l₂, hq₁.append hq₂, fun l => by simp [h₁, h₂]⟩

/-- An effect that does at `s`, whatever the trace, what another effect does. -/
theorem LogsAt.congr {f g : State → State} {s : State} (h : ∀ l, f (s.withTrace l) = g (s.withTrace l))
    (hg : LogsAt g s) : LogsAt f s := by
  obtain ⟨events, hq, hg⟩ := hg
  have hs : f s = g s := h s.trace
  exact ⟨events, hq, fun l => by rw [h, hs, hg]⟩

/-! ### The commands -/

theorem startCommand_logs {v : Byte} {proto : Proto} {execute : Command → State → State}
    (h : ∀ c, Logs (execute c)) : Logs (startCommand v proto execute) := by
  intro s
  have hstart : LogsAt (·.emit (.cmdStart v (newCommand v proto s).d)) s := .of_single (by simp) fun _ => rfl
  exact (hstart.comp (h (newCommand v proto s) _)).congr fun _ => rfl

theorem identifyWith_logs (c : Command) (record : State → Option Block)
    (hrec : ∀ s l, record (s.withTrace l) = record s) : Logs fun s => identifyWith c (record s) s := by
  intro s
  cases h : record s with
  | none => exact .of_single (e := .cmdEnd c.opcode c.d .error) (by simp) fun l => by simp [hrec, h, identifyWith, completionOf]
  | some b => exact .of_silent fun l => by simp [hrec, h, identifyWith]

theorem identifyDevice_logs (c : Command) : Logs (identifyDevice c) := identifyWith_logs c _ (by simp)

theorem identifyPacketDevice_logs (c : Command) : Logs (identifyPacketDevice c) := identifyWith_logs c _ (by simp)

/-- A command of the non-data protocol, by its step. -/
theorem nonDataExecute_logs (c : Command) {run : State → Bool × State} {s : State} {events : List Event}
    (hq : Quiet events) (h : ∀ l, run (s.withTrace l) = ((run s).1, (run s).2.withTrace (l ++ events))) :
    LogsAt (fun u => nonDataExecute c (run u)) s :=
  ⟨events ++ [.cmdEnd c.opcode c.d (completionOf (run s).1)], hq.append (by simp [Quiet]),
    fun l => by simp [nonDataExecute, h]⟩

theorem initializeDeviceParameters_logs (c : Command) : Logs (initializeDeviceParameters c) := by
  intro s
  refine nonDataExecute_logs c Quiet.nil fun l => ?_
  simp only [initializeStep, State.withTrace_regs, State.withTrace_dev, State.setDev_withTrace, List.append_nil]
  split_ifs <;> rfl

/-- The step of SET FEATURES selects a mode, or appends one diagnostic. -/
theorem setFeaturesStep_logs (c : Command) (s : State) : ∃ events, Quiet events ∧
    ∀ l, setFeaturesStep c (s.withTrace l) = ((setFeaturesStep c s).1, (setFeaturesStep c s).2.withTrace (l ++ events)) := by
  simp only [setFeaturesStep, State.withTrace_regs, State.withTrace_dev, State.setDev_withTrace, State.diag_withTrace]
  have hdiag : ∀ m, Quiet [.diag m] := by simp [Quiet]
  split
  · split
    · split
      · exact ⟨[], Quiet.nil, by simp⟩
      · exact ⟨_, hdiag _, fun _ => rfl⟩
    · split
      · exact ⟨[], Quiet.nil, by simp⟩
      · exact ⟨_, hdiag _, fun _ => rfl⟩
    · exact ⟨_, hdiag _, fun _ => rfl⟩
  · exact ⟨_, hdiag _, fun _ => rfl⟩

theorem setFeatures_logs (c : Command) : Logs (setFeatures c) := by
  intro s
  obtain ⟨events, hq, h⟩ := setFeaturesStep_logs c s
  exact nonDataExecute_logs c hq h

theorem securityUnlock_logs (c : Command) : Logs (securityUnlock c) :=
  fun s => .of_silent fun l => by simp [securityUnlock]

theorem dmaCommand_logs (isWrite : Bool) (c : Command) : Logs (dmaCommand isWrite c) := by
  intro s
  cases h : (s.dev c.d).armedWindow s.regs.commandWord isWrite with
  | none =>
    exact .of_single (e := .cmdEnd c.opcode c.d .error) (by simp) fun l => by simp [dmaCommand, h, completionOf]
  | some win => exact .of_silent fun l => by simp [dmaCommand, h]

theorem unsupportedCommand_logs (v : Byte) : Logs (unsupportedCommand v) := by
  intro s
  cases h : s.unsupportedAborts with
  | false => exact .of_silent fun l => by simp [unsupportedCommand, h]
  | true =>
    refine ⟨[.cmdStart v (newCommand v .nonData s).d, .diag .unsupportedCommand,
      .cmdEnd v (newCommand v .nonData s).d .error], by simp [Quiet], fun l => ?_⟩
    simp [unsupportedCommand, h, completionOf, newCommand]

theorem CommandRun.logs {v : Byte} {run : State → State} (h : CommandRun v run) : Logs run := by
  cases h with
  | identifyDevice => exact startCommand_logs identifyDevice_logs
  | identifyPacketDevice => exact startCommand_logs identifyPacketDevice_logs
  | initializeDeviceParameters => exact startCommand_logs initializeDeviceParameters_logs
  | setFeatures => exact startCommand_logs setFeatures_logs
  | securityUnlock => exact startCommand_logs securityUnlock_logs
  | readDma => exact startCommand_logs (dmaCommand_logs false)
  | writeDma => exact startCommand_logs (dmaCommand_logs true)
  | packet => exact fun s => .of_silent fun l => rfl
  | unsupported => exact unsupportedCommand_logs v

theorem commandEffect_logs {v : Byte} {run : State → State} (h : Logs run) : Logs (commandEffect v run) := by
  intro s
  by_cases hs : s.srst = true
  · exact .of_silent fun l => by simp [commandEffect, hs]
  by_cases hc : s.cur.isSome = true
  · exact .of_silent fun l => by simp [commandEffect, hs, hc]
  · have hlatch : LogsAt (fun u => (u.setRegs { u.regs with command := v }).setInt false) s := .of_silent fun _ => rfl
    exact (hlatch.comp (h _)).congr fun l => by simp [commandEffect, hs, hc]

/-! ### Register accesses -/

theorem rdData_logs (n : Width) : Logs (rdData n) := by
  intro s
  cases h : s.openPhase .pioIn with
  | none => exact .of_single (e := .diag .readDataOutsidePhase) (by simp) fun l => by simp [rdData, h]
  | some c =>
    by_cases hend : (s.dev c.d).pioCursor + (s.dev c.d).moveCount n.bytes = pioBufSize
    · exact .of_single (e := .cmdEnd c.opcode c.d .success) (by simp) fun l => by simp [rdData, h, hend]
    · exact .of_silent fun l => by simp [rdData, h, hend]

theorem pioOutComplete_logs (c : Command) : Logs (pioOutComplete c) :=
  fun s => .of_single (e := .cmdEnd c.opcode c.d (completionOf
    ((s.dev c.d).driver.securityUnlockOk (s.dev c.d).pioBuf))) (by simp) fun l => by simp [pioOutComplete]

theorem wrData_logs (n : Width) (v : BitVec 32) : Logs (wrData n v) := by
  intro s
  cases h : s.openPhase .pioOut with
  | none => exact .of_single (e := .diag .writeDataOutsidePhase) (by simp) fun l => by simp [wrData, h]
  | some c =>
    have hstore : LogsAt (fun u => u.setDev c.d ((u.dev c.d).writeBuffer v n.bytes)) s := .of_silent fun l => by simp
    by_cases hend : (s.dev c.d).pioCursor + (s.dev c.d).moveCount n.bytes = pioBufSize
    · exact (hstore.comp (pioOutComplete_logs c _)).congr fun l => by simp [wrData, h, hend]
    · exact hstore.congr fun l => by simp [wrData, h, hend]

theorem wrTask_logs (reg : TaskReg) (v : Byte) : Logs (wrTask reg v) := by
  intro s
  by_cases hs : s.srst = true
  · exact .of_silent fun l => by simp [wrTask, hs]
  by_cases hc : s.cur.isSome = true
  · exact .of_silent fun l => by simp [wrTask, hs, hc]
  · exact .of_silent fun l => by simp [wrTask, hs, hc]

theorem abandonCommand_logs : Logs abandonCommand := by
  intro s
  cases h : s.cur with
  | none => exact .of_silent fun l => by simp [abandonCommand, h]
  | some c => exact .of_single (e := .cmdAbort c.opcode c.d) (by simp) fun l => by simp [abandonCommand, h]

theorem softResetAssert_logs : Logs softResetAssert := fun s =>
  (abandonCommand_logs s).comp (g := fun u => (((u.setDev .master u.dev0.endDma.drain).setDev .slave
    u.dev1.endDma.drain).setInt false).setRegs { u.regs with status := stBusy }) (.of_silent fun _ => rfl)

theorem softResetRelease_logs : Logs softResetRelease :=
  fun s => .of_single (e := .resetDone) (by simp) fun _ => rfl

theorem wrDevCtl_logs (v : Byte) : Logs (wrDevCtl v) := by
  intro s
  have hstore : LogsAt (fun u => u.setRegs { u.regs with devCtl := v }) s := .of_silent fun _ => rfl
  by_cases hrise : Machine.srst s.regs.devCtl = false ∧ Machine.srst v = true
  · exact (hstore.comp (softResetAssert_logs _)).congr fun l => wrDevCtl_of_rise (s := s.withTrace l) hrise
  by_cases hfall : Machine.srst s.regs.devCtl = true ∧ Machine.srst v = false
  · exact (hstore.comp (softResetRelease_logs _)).congr fun l => wrDevCtl_of_fall (s := s.withTrace l) hfall
  · exact hstore.congr fun l => wrDevCtl_of_level (s := s.withTrace l) hrise hfall

/-! ### The bus master -/

theorem dmaComplete_logs (ok : Bool) : Logs (dmaComplete ok) := by
  intro s
  cases h : s.cur with
  | none => exact .of_silent fun l => by simp [dmaComplete, h]
  | some c =>
    exact .of_single (e := .cmdEnd c.opcode c.d (completionOf ok)) (by simp) fun l => by simp [dmaComplete, h]

/-- What follows a sector transfer, by the transfer. -/
theorem afterSector_logs (d : Slot) (answer : Reply) {move : State → Bool × State} {s : State} {e : Event}
    (hq : e ≠ .irqRise ∧ e ≠ .irqFall) (h : ∀ l, move (s.withTrace l) = ((move s).1, (move s).2.withTrace (l ++ [e]))) :
    LogsAt (fun u => afterSector d answer (move u)) s := by
  have hmove : LogsAt (fun u => (move u).2) s := .of_single hq fun l => by rw [h]
  have hend : ∀ ok r, LogsAt (fun u => (dmaComplete ok (move u).2).setReply r) s := fun ok r =>
    (hmove.comp (dmaComplete_logs ok _)).comp (g := (·.setReply r)) (.of_silent fun _ => rfl)
  by_cases hok : (move s).1 = true
  · by_cases hfin : ((move s).2.dev d).isDmaFinished = true
    · exact (hend true answer).congr fun l => by simp [afterSector, h, hok, hfin]
    · exact (hmove.comp (g := (·.setReply answer)) (.of_silent fun _ => rfl)).congr fun l => by
        simp [afterSector, h, hok, hfin]
  · exact (hend false .failed).congr fun l => by simp [afterSector, h, hok]

/-- A sector read appends its one backend event. -/
theorem readDmaSector_withTrace (d : Slot) (s : State) : ∃ r, ∀ l, readDmaSector d (s.withTrace l) =
    ((readDmaSector d s).1, (readDmaSector d s).2.withTrace
      (l ++ [.backendRead d (s.dev d).sectorAddress (s.dev d).driver.sectorSize r])) := by
  simp only [readDmaSector, State.withTrace_dev, State.withTrace_backendAnswer, State.afterBackendCall_withTrace,
    State.emit_withTrace, State.setDev_withTrace]
  split
  · split
    · exact ⟨_, fun _ => rfl⟩
    · exact ⟨_, fun _ => rfl⟩
  · exact ⟨_, fun _ => rfl⟩

/-- A sector write appends its one backend event. -/
theorem writeDmaSector_withTrace (d : Slot) (buf : List Byte) (s : State) : ∃ r, ∀ l, writeDmaSector d buf (s.withTrace l) =
    ((writeDmaSector d buf s).1, (writeDmaSector d buf s).2.withTrace
      (l ++ [.backendWrite d (s.dev d).sectorAddress (s.dev d).driver.sectorSize r])) := by
  simp only [writeDmaSector, State.withTrace_dev, State.withTrace_backendAnswer, State.withTrace_drawBytes,
    State.afterBackendCall_withTrace, State.emit_withTrace, State.setDev_withTrace, State.skipDraws_withTrace]
  split
  · split
    · exact ⟨_, fun _ => rfl⟩
    · exact ⟨_, fun _ => rfl⟩
  · exact ⟨_, fun _ => rfl⟩

theorem dmaReadSector_logs (d : Slot) : Logs (dmaReadSector d) := by
  intro s
  cases h : checkWindow d false s with
  | some r => exact .of_silent fun l => by simp [dmaReadSector, h]
  | none =>
    obtain ⟨r, hmove⟩ := readDmaSector_withTrace d s
    exact (afterSector_logs d (.sector (s.dev d).sectorBytes) (by simp) hmove).congr fun l => by simp [dmaReadSector, h]

theorem dmaWriteSector_logs (d : Slot) (buf : List Byte) : Logs (dmaWriteSector d buf) := by
  intro s
  cases h : checkWindow d true s with
  | some r => exact .of_silent fun l => by simp [dmaWriteSector, h]
  | none =>
    by_cases hlen : buf.length = (s.dev d).driver.sectorSize
    · obtain ⟨r, hmove⟩ := writeDmaSector_withTrace d buf s
      exact (afterSector_logs d .done (by simp) hmove).congr fun l => by simp [dmaWriteSector, h, hlen]
    · exact .of_silent fun l => by simp [dmaWriteSector, h, hlen]

theorem dmaAbort_logs (d : Slot) : Logs (dmaAbort d) := by
  intro s
  have hdiag : ∀ m, LogsAt (·.diag m) s := fun m => .of_single (e := .diag m) (by simp) fun _ => rfl
  cases h : s.openPhase .dma with
  | none => exact (hdiag .dmaAbortNoWindow).congr fun l => by simp [dmaAbort, h]
  | some c =>
    by_cases hd : c.d = d
    · exact ((hdiag .dmaAborted).comp (dmaComplete_logs false _)).congr fun l => by simp [dmaAbort, h, hd]
    · exact (hdiag .dmaAbortNoWindow).congr fun l => by simp [dmaAbort, h, hd]

/-! ### Every operation -/

theorem Effect.logs {i : Instr} {f : State → State} (h : Effect i f) : Logs f := by
  cases h with
  | readData => exact rdData_logs _
  | writeData => exact wrData_logs _ _
  | readReg | readStatus | refuse => exact fun s => .of_silent fun _ => rfl
  | writeTask reg v => exact wrTask_logs reg v
  | writeDevCtl v => exact wrDevCtl_logs v
  | command hi hrun => exact commandEffect_logs hrun.logs
  | readSector d => exact dmaReadSector_logs d
  | writeSector d buf => exact dmaWriteSector_logs d buf
  | abort d => exact dmaAbort_logs d
  | query d => exact fun s => .of_silent fun l => by simp [dmaQuery]
  | mediumChange | attach => exact fun s => .of_silent fun l => by simp

/-- What settles the interrupt line appends the edge of the line's two values. -/
theorem settle_eq_withTrace (after before : State) :
    after.settle before = after.withTrace (after.trace ++ edge before.irq after.irq) := by
  rw [settle_eq]
  cases before.irq <;> cases after.irq <;> simp [edge, State.withTrace_self] <;> rfl

/-- What an operation does to the trace: it appends events without an edge and then the edge that the line calls for, and
with any other trace before it it does the same. -/
theorem exec_trace {i : Instr} {s t : State} (h : exec i s = .next t) :
    ∃ events, Quiet events ∧ t.trace = s.trace ++ events ++ edge s.irq t.irq ∧
      ∀ l, exec i (s.withTrace l) = .next (t.withTrace (l ++ events ++ edge s.irq t.irq)) := by
  obtain ⟨f, hf, heq⟩ := exec_effect i
  obtain ⟨hall, hl, ht⟩ := whenAllowed_next.mp (heq s ▸ h)
  obtain ⟨events, hq, hlog⟩ := hf.logs (s.setReply .none)
  have htrace : (f (s.setReply .none)).trace = s.trace ++ events := congrArg State.trace (hlog s.trace)
  rw [settle_eq_withTrace, htrace] at ht
  have hirq : t.irq = (f (s.setReply .none)).irq := by rw [ht]; rfl
  rw [← hirq] at ht
  refine ⟨events, hq, by rw [ht, State.withTrace_trace, ← ht], fun l => ?_⟩
  rw [heq, whenAllowed_next, envAllowed_congr i (s.withTrace_dev l) rfl, State.setReply_withTrace, hlog, settle_eq_withTrace]
  exact ⟨hall, hl, by rw [hirq, ht]; rfl⟩

/-- Settles O14: what an operation does with another trace before it is part of `exec_trace`. -/
theorem traceGrowsAndIsNeverRead : Obligations.TraceGrowsAndIsNeverRead := by
  intro i s t before h
  obtain ⟨events, -, htrace, hany⟩ := exec_trace h
  have hbefore := hany before
  rw [List.append_assoc] at htrace hbefore
  refine ⟨⟨_, htrace⟩, ?_⟩
  rw [htrace, List.drop_left]
  exact hbefore

/-- The edge of a line, from its values. -/
theorem edge_eq_ite (before after : Bool) : edge before after =
    if before = false ∧ after = true then [.irqRise] else if before = true ∧ after = false then [.irqFall] else [] := by
  cases before <;> cases after <;> rfl

/-- Settles O15: the edge comes last and every event before it is no edge. -/
theorem interruptEdgeEvents : Obligations.InterruptEdgeEvents := by
  intro i s t h before after
  obtain ⟨events, hq, htrace, -⟩ := exec_trace h
  rw [edge_eq_ite] at htrace
  exact ⟨events, hq, htrace⟩

end Sys2Proof.Machine
end

section
/-! PROOFS. Who writes the registers of the host and the driver records: the command engine and the transfers leave both alone,
but for the bytes of a written sector (10_state R23 to R31, R42; 40_driver_capability R157; 60_exceptions R502;
70_reset_and_hazards R603). -/

namespace Sys2Proof.Machine

/-! ### What the command engine leaves alone -/

/-- The registers but Error and Status, the two that the block writes by itself (10_state R22, R29). -/
def Regs.hostRegs (r : Regs) : Regs := { r with error := 0, status := 0 }

/-- What the host and the environment own: the registers that the host writes, and the record in each slot. -/
structure Outer where
  regs : Regs
  driver0 : Driver
  driver1 : Driver

/-- The part of a state that the host and the environment own. -/
def State.outer (s : State) : Outer :=
  { regs := s.regs.hostRegs, driver0 := s.dev0.driver, driver1 := s.dev1.driver }

@[simp] theorem Regs.hostRegs_result (r : Regs) (e st : Byte) :
    ({ r with error := e, status := st } : Regs).hostRegs = r.hostRegs := rfl

@[simp] theorem completionRegs_hostRegs (r : Regs) (ok : Bool) : (completionRegs r ok).hostRegs = r.hostRegs := by
  cases ok <;> rfl

@[simp] theorem State.setCur_outer (s : State) (c : Option Command) : (s.setCur c).outer = s.outer := rfl
@[simp] theorem State.setInt_outer (s : State) (b : Bool) : (s.setInt b).outer = s.outer := rfl
@[simp] theorem State.assertInt_outer (s : State) : s.assertInt.outer = s.outer := rfl
@[simp] theorem State.setReply_outer (s : State) (r : Reply) : (s.setReply r).outer = s.outer := rfl
@[simp] theorem State.emit_outer (s : State) (e : Event) : (s.emit e).outer = s.outer := rfl
@[simp] theorem State.diag_outer (s : State) (m : Diagnostic) : (s.diag m).outer = s.outer := rfl
@[simp] theorem State.raiseFault_outer (s : State) (r : FaultReason) : (s.raiseFault r).outer = s.outer := rfl
@[simp] theorem State.refuse_outer (s : State) (r : RefuseReason) : (s.refuse r).outer = s.outer := rfl
@[simp] theorem State.skipDraws_outer (s : State) (n : Nat) : (s.skipDraws n).outer = s.outer := rfl
@[simp] theorem State.afterBackendCall_outer (s : State) : s.afterBackendCall.outer = s.outer := rfl

/-- The owned part with another record in a slot. -/
def Outer.withDriver (o : Outer) (d : Slot) (drv : Driver) : Outer :=
  match d with
  | .master => { o with driver0 := drv }
  | .slave => { o with driver1 := drv }

/-- The owned part with other host registers. -/
def Outer.withRegs (o : Outer) (r : Regs) : Outer := { o with regs := r }

@[simp] theorem State.setDev_outer (s : State) (d : Slot) (v : Device) :
    (s.setDev d v).outer = s.outer.withDriver d v.driver := by cases d <;> rfl

@[simp] theorem State.setRegs_outer (s : State) (r : Regs) : (s.setRegs r).outer = s.outer.withRegs r.hostRegs := rfl

/-- The record that stands in a slot, put there again. -/
@[simp] theorem Outer.withDriver_self (s : State) (d : Slot) : s.outer.withDriver d (s.dev d).driver = s.outer := by
  cases d <;> rfl

/-- The host registers as they stand, put there again. -/
@[simp] theorem Outer.withRegs_self (s : State) : s.outer.withRegs s.regs.hostRegs = s.outer := rfl

@[simp] theorem enterDataPhase_outer (c : Command) (b : Bool) (s : State) : (enterDataPhase c b s).outer = s.outer := by
  cases b <;> rfl
@[simp] theorem finish_outer (c : Command) (r : Completion) (s : State) : (finish c r s).outer = s.outer := rfl
@[simp] theorem complete_outer (c : Command) (ok : Bool) (s : State) : (complete c ok s).outer = s.outer := by
  simp [complete]

/-- The effect leaves the registers of the host and the driver records alone. -/
def KeepsOuter (f : State → State) : Prop := ∀ s, (f s).outer = s.outer

/-! ### The commands -/

theorem startCommand_keepsOuter {v : Byte} {proto : Proto} {execute : Command → State → State}
    (h : ∀ c, KeepsOuter (execute c)) : KeepsOuter (startCommand v proto execute) :=
  fun s => h _ (s.emit _)

theorem identifyWith_outer (c : Command) (record : Option Block) (s : State) :
    (identifyWith c record s).outer = s.outer := by
  cases record <;> simp [identifyWith]

theorem initializeDeviceParameters_keepsOuter (c : Command) : KeepsOuter (initializeDeviceParameters c) := by
  intro s
  rw [initializeDeviceParameters, nonDataExecute, complete_outer]
  obtain h | ⟨-, -, h⟩ := initializeStep_cases c s <;> simp [h]

theorem setFeatures_keepsOuter (c : Command) : KeepsOuter (setFeatures c) := by
  intro s
  rw [setFeatures, nonDataExecute, complete_outer]
  obtain ⟨m, h⟩ | ⟨-, -, ⟨m, -, -, h⟩ | ⟨k, m, -, -, h⟩⟩ := setFeaturesStep_cases c s <;> simp [h]

theorem securityUnlock_keepsOuter (c : Command) : KeepsOuter (securityUnlock c) := by
  intro s
  simp [securityUnlock]

theorem dmaCommand_keepsOuter (isWrite : Bool) (c : Command) : KeepsOuter (dmaCommand isWrite c) := by
  intro s
  unfold dmaCommand
  split <;> simp

theorem unsupportedCommand_keepsOuter (v : Byte) : KeepsOuter (unsupportedCommand v) := by
  intro s
  unfold unsupportedCommand
  split <;> simp

theorem CommandRun.keepsOuter {v : Byte} {run : State → State} (h : CommandRun v run) : KeepsOuter run := by
  cases h with
  | identifyDevice => exact startCommand_keepsOuter fun _ _ => identifyWith_outer _ _ _
  | identifyPacketDevice => exact startCommand_keepsOuter fun _ _ => identifyWith_outer _ _ _
  | initializeDeviceParameters => exact startCommand_keepsOuter initializeDeviceParameters_keepsOuter
  | setFeatures => exact startCommand_keepsOuter setFeatures_keepsOuter
  | securityUnlock => exact startCommand_keepsOuter securityUnlock_keepsOuter
  | readDma => exact startCommand_keepsOuter (dmaCommand_keepsOuter false)
  | writeDma => exact startCommand_keepsOuter (dmaCommand_keepsOuter true)
  | packet => exact fun _ => rfl
  | unsupported => exact unsupportedCommand_keepsOuter v

/-- A Command write leaves all that the host owns alone, or latches its byte and leaves the rest alone. -/
theorem commandEffect_outer {v : Byte} {run : State → State} (h : CommandRun v run) (s : State) :
    (commandEffect v run s).outer = s.outer ∨
      (commandEffect v run s).outer = s.outer.withRegs ({ s.regs with command := v } : Regs).hostRegs := by
  obtain ⟨r, heq⟩ | ⟨-, -, heq⟩ := commandEffect_cases v run s
  · exact .inl (by simp [heq])
  · exact .inr (by rw [heq, h.keepsOuter, State.setInt_outer, State.setRegs_outer])

/-! ### The data port and the bus master -/

theorem rdData_keepsOuter (n : Width) : KeepsOuter (rdData n) := by
  intro s
  unfold rdData
  split
  · simp
  · dsimp only
    split <;> simp [pioInComplete]

theorem wrData_keepsOuter (n : Width) (v : BitVec 32) : KeepsOuter (wrData n v) := by
  intro s
  unfold wrData
  split
  · simp
  · dsimp only
    split <;> simp [pioOutComplete]

theorem dmaComplete_keepsOuter (ok : Bool) : KeepsOuter (dmaComplete ok) := by
  intro s
  unfold dmaComplete
  split <;> simp

theorem afterSector_outer (d : Slot) (answer : Reply) (moved : Bool × State) :
    (afterSector d answer moved).outer = moved.2.outer := by
  unfold afterSector
  split_ifs <;> simp [dmaComplete_keepsOuter _ _]

theorem dmaReadSector_keepsOuter (d : Slot) : KeepsOuter (dmaReadSector d) := by
  intro s
  unfold dmaReadSector
  split
  · simp
  · rw [afterSector_outer]
    obtain ⟨s', rfl, -, -, h⟩ | ⟨s', rfl | rfl, h⟩ := readDmaSector_cases d s <;> simp [h]

theorem dmaAbort_keepsOuter (d : Slot) : KeepsOuter (dmaAbort d) := by
  intro s
  unfold dmaAbort
  split
  · simp
  · split <;> simp [dmaComplete_keepsOuter _ _]

/-- All that a sector write can do to what the host owns: nothing, or store one sector of bytes at the device's current
address (44_dma_engine R375, 20_memory R76). -/
theorem dmaWriteSector_outer (d : Slot) (buf : List Byte) (s : State) :
    (dmaWriteSector d buf s).outer = s.outer ∨ ∃ bytes, bytes.length = (s.dev d).driver.sectorSize ∧
      (dmaWriteSector d buf s).outer = s.outer.withDriver d ((s.dev d).storeSector bytes).driver := by
  unfold dmaWriteSector
  split
  · exact .inl (by simp)
  · split_ifs with hlen
    · rw [afterSector_outer]
      obtain ⟨-, -, h⟩ | ⟨-, -, h⟩ | ⟨-, h⟩ := writeDmaSector_cases d buf s
      · exact .inr ⟨buf, hlen, by simp [h]⟩
      · exact .inr ⟨s.drawBytes (s.dev d).driver.sectorSize, by simp [State.drawBytes], by simp [h]⟩
      · exact .inl (by simp [h])
    · exact .inl (by simp)

/-! ### The writes of the host and the environment -/

theorem wrTask_outer (reg : TaskReg) (v : Byte) (s : State) :
    (wrTask reg v s).outer = s.outer ∨
      (wrTask reg v s).outer = s.outer.withRegs (s.regs.writeTask reg v).hostRegs := by
  unfold wrTask
  split_ifs <;> simp

theorem abandonCommand_keepsOuter : KeepsOuter abandonCommand := by
  intro s
  unfold abandonCommand
  split <;> rfl

theorem softResetAssert_keepsOuter : KeepsOuter softResetAssert := by
  intro s
  calc (softResetAssert s).outer = (abandonCommand s).outer := rfl
    _ = s.outer := abandonCommand_keepsOuter s

theorem softResetRelease_outer (s : State) :
    (softResetRelease s).outer = s.outer.withRegs (s.regs.loadSignature s.dev0.driver).hostRegs := rfl

/-- What one operation can make of what the host and the environment own. -/
inductive OuterStep (i : Instr) (s : State) : Outer → Prop where
  /-- No change. -/
  | kept : OuterStep i s s.outer
  /-- The write of a task-file register (41_register_access R216). -/
  | task (reg : TaskReg) (v : Byte) (hi : i = reg.write v) :
      OuterStep i s (s.outer.withRegs (s.regs.writeTask reg v).hostRegs)
  /-- A Command write that latches its byte (41_register_access R215). -/
  | command (v : Byte) (hi : WritesCommand i v) :
      OuterStep i s (s.outer.withRegs ({ s.regs with command := v } : Regs).hostRegs)
  /-- A Device Control write (41_register_access R217). -/
  | devCtl (v : Byte) (hi : i = .wrDevCtl v) :
      OuterStep i s (s.outer.withRegs ({ s.regs with devCtl := v } : Regs).hostRegs)
  /-- The falling edge of SRST loads the signature (70_reset_and_hazards R602). -/
  | released (v : Byte) (hi : i = .wrDevCtl v) (hold : s.regs.devCtl.getLsbD 2 = true) (hnew : v.getLsbD 2 = false) :
      OuterStep i s (s.outer.withRegs (({ s.regs with devCtl := v } : Regs).loadSignature s.dev0.driver).hostRegs)
  /-- A sector write stores one sector of bytes (44_dma_engine R375). -/
  | sector (d : Slot) (buf bytes : List Byte) (hi : i = .dmaWriteSector d buf)
      (hlen : bytes.length = (s.dev d).driver.sectorSize) :
      OuterStep i s (s.outer.withDriver d ((s.dev d).storeSector bytes).driver)
  /-- A medium change (40_driver_capability R170). -/
  | medium (d : Slot) (present : Bool) (capacity : Lba) (img : Memory) (hi : i = .mediumChange d present capacity img) :
      OuterStep i s (s.outer.withDriver d { (s.dev d).driver with medium := newMedium present capacity img })
  /-- ATTACH (40_driver_capability R172). -/
  | attached (d : Slot) (drv : Driver) (hi : i = .attach d drv) : OuterStep i s (s.outer.withDriver d drv)

theorem OuterStep.of_eq {i : Instr} {s : State} {o : Outer} (h : o = s.outer) : OuterStep i s o := h ▸ .kept

theorem wrDevCtl_outerStep (v : Byte) (s : State) : OuterStep (.wrDevCtl v) s (wrDevCtl v s).outer := by
  by_cases hrise : Machine.srst s.regs.devCtl = false ∧ Machine.srst v = true
  · rw [wrDevCtl_of_rise hrise, softResetAssert_keepsOuter]
    exact .devCtl v rfl
  by_cases hfall : Machine.srst s.regs.devCtl = true ∧ Machine.srst v = false
  · rw [wrDevCtl_of_fall hfall, softResetRelease_outer]
    exact .released v rfl hfall.1 hfall.2
  · rw [wrDevCtl_of_level hrise hfall]
    exact .devCtl v rfl

theorem Effect.outerStep {i : Instr} {f : State → State} (h : Effect i f) (s : State) : OuterStep i s (f s).outer := by
  cases h with
  | readData => exact .of_eq (rdData_keepsOuter _ s)
  | writeData => exact .of_eq (wrData_keepsOuter _ _ s)
  | readReg | readStatus | refuse => exact .kept
  | writeTask reg v =>
    obtain h | h := wrTask_outer reg v s
    · exact .of_eq h
    · exact h ▸ .task reg v rfl
  | writeDevCtl v => exact wrDevCtl_outerStep v s
  | @command _ v run hi hrun =>
    obtain h | h := commandEffect_outer hrun s
    · exact .of_eq h
    · exact h ▸ .command v hi
  | readSector d => exact .of_eq (dmaReadSector_keepsOuter d s)
  | writeSector d buf =>
    obtain h | ⟨bytes, hlen, h⟩ := dmaWriteSector_outer d buf s
    · exact .of_eq h
    · exact h ▸ .sector d buf bytes rfl hlen
  | abort d => exact .of_eq (dmaAbort_keepsOuter d s)
  | query d => exact .kept
  | mediumChange d present capacity img =>
    rw [State.setDev_outer]
    exact .medium d present capacity img rfl
  | attach d drv =>
    rw [State.setDev_outer]
    exact .attached d drv rfl

theorem settle_outer (s b : State) : (s.settle b).outer = s.outer := by
  simp [State.outer]

/-- A step from the state with its reply cleared is one from the state itself. -/
theorem OuterStep.of_setReply {i : Instr} {s : State} {r : Reply} {o : Outer} (h : OuterStep i (s.setReply r) o) :
    OuterStep i s o := by
  cases h with
  | kept => exact .kept
  | task reg v hi => exact .task reg v hi
  | command v hi => exact .command v hi
  | devCtl v hi => exact .devCtl v hi
  | released v hi hold hnew => exact .released v hi hold hnew
  | sector d buf bytes hi hlen =>
    rw [State.setReply_dev] at hlen ⊢
    exact .sector d buf bytes hi hlen
  | medium d present capacity img hi =>
    rw [State.setReply_dev]
    exact .medium d present capacity img hi
  | attached d drv hi => exact .attached d drv hi

/-- All that an operation can do to what the host and the environment own. -/
theorem exec_outerStep {i : Instr} {s t : State} (h : exec i s = .next t) : OuterStep i s t.outer := by
  obtain ⟨f, hf, -, -, rfl⟩ := exec_next h
  rw [settle_outer]
  exact (hf.outerStep _).of_setReply

@[simp] theorem Outer.withDriver_regs (o : Outer) (d : Slot) (drv : Driver) : (o.withDriver d drv).regs = o.regs := by
  cases d <;> rfl

/-- Error and Status apart, the fields of a register block are those of its host registers. -/
theorem Regs.fields_of_hostRegs_eq {r r' : Regs} (h : r.hostRegs = r') :
    r.features = r'.features ∧ r.sectorCount = r'.sectorCount ∧ r.sectorNumber = r'.sectorNumber ∧
      r.cylLow = r'.cylLow ∧ r.cylHigh = r'.cylHigh ∧ r.devHead = r'.devHead ∧ r.command = r'.command ∧
      r.devCtl = r'.devCtl := by
  subst h
  exact ⟨rfl, rfl, rfl, rfl, rfl, rfl, rfl, rfl⟩

/-- Settles O17, by the cases of `OuterStep`. -/
theorem onlyTheseOperationsWriteTheTaskFile : Obligations.OnlyTheseOperationsWriteTheTaskFile := by
  intro i s t h release
  have hstep := exec_outerStep h
  generalize ho : t.outer = o at hstep
  have hregs : t.regs.hostRegs = o.regs := congrArg Outer.regs ho
  obtain ⟨hf, hsc, hsn, hcl, hch, hdh, hcmd, hdc⟩ := Regs.fields_of_hostRegs_eq hregs
  rw [hf, hsc, hsn, hcl, hch, hdh, hcmd, hdc]
  cases hstep with
  | kept => exact ⟨.inl rfl, .inl rfl, .inl rfl, .inl rfl, .inl rfl, .inl rfl, .inl rfl, .inl rfl⟩
  | sector | medium | attached =>
    rw [Outer.withDriver_regs]
    exact ⟨.inl rfl, .inl rfl, .inl rfl, .inl rfl, .inl rfl, .inl rfl, .inl rfl, .inl rfl⟩
  | task reg v hi =>
    cases reg <;> simp [Outer.withRegs, Regs.hostRegs, Regs.writeTask, State.outer, hi, TaskReg.write]
  | command v hi =>
    exact ⟨.inl rfl, .inl rfl, .inl rfl, .inl rfl, .inl rfl, .inl rfl, .inr hi, .inl rfl⟩
  | devCtl v hi =>
    exact ⟨.inl rfl, .inl rfl, .inl rfl, .inl rfl, .inl rfl, .inl rfl, .inl rfl, .inr hi⟩
  | released v hi hold hnew =>
    have hrel : release := ⟨v, hi, hold, hnew⟩
    exact ⟨.inr (.inr hrel), .inr (.inr hrel), .inr (.inr hrel), .inr (.inr hrel), .inr (.inr hrel), .inr (.inr hrel),
      .inl rfl, .inr hi⟩

/-- The record in a slot. -/
def Outer.driver (o : Outer) (d : Slot) : Driver :=
  match d with
  | .master => o.driver0
  | .slave => o.driver1

theorem State.outer_driver (s : State) (d : Slot) : s.outer.driver d = (s.dev d).driver := by cases d <;> rfl

theorem Outer.withDriver_driver (o : Outer) (d d' : Slot) (drv : Driver) :
    (o.withDriver d drv).driver d' = if d' = d then drv else o.driver d' := by
  cases d <;> cases d' <;> rfl

/-- All that an operation can do to the record in a slot: nothing, store one sector of bytes at the current address, change
the medium, or put another record there. -/
theorem exec_driver {i : Instr} {s t : State} (h : exec i s = .next t) (d : Slot) :
    (t.dev d).driver = (s.dev d).driver ∨
      (∃ buf bytes, i = .dmaWriteSector d buf ∧ bytes.length = (s.dev d).driver.sectorSize ∧
        (t.dev d).driver = ((s.dev d).storeSector bytes).driver) ∨
      (∃ present capacity img, i = .mediumChange d present capacity img ∧
        (t.dev d).driver = { (s.dev d).driver with medium := newMedium present capacity img }) ∨
      ∃ drv, i = .attach d drv := by
  have hstep := exec_outerStep h
  rw [← State.outer_driver t]
  generalize t.outer = o at hstep
  cases hstep with
  | kept => exact .inl (State.outer_driver s d)
  | task | command | devCtl | released => exact .inl (State.outer_driver s d)
  | sector d' buf bytes hi hlen =>
    rw [Outer.withDriver_driver]
    split
    · subst d
      exact .inr (.inl ⟨buf, bytes, hi, hlen, rfl⟩)
    · exact .inl (State.outer_driver s d)
  | medium d' present capacity img hi =>
    rw [Outer.withDriver_driver]
    split
    · subst d
      exact .inr (.inr (.inl ⟨present, capacity, img, hi, rfl⟩))
    · exact .inl (State.outer_driver s d)
  | attached d' drv hi =>
    rw [Outer.withDriver_driver]
    split
    · subst d
      exact .inr (.inr (.inr ⟨drv, hi⟩))
    · exact .inl (State.outer_driver s d)

/-- The bytes of a sector stored at the current LBA change the image inside that sector alone (44_dma_engine R375). -/
theorem storeSector_read {D : Device} {bytes : List Byte} (hlen : bytes.length = D.driver.sectorSize) (a : Nat) :
    (D.storeSector bytes).driver.medium.img.read a = D.driver.medium.img.read a ∨
      (D.dma.curLba.toNat * D.driver.sectorSize ≤ a ∧ a < (D.dma.curLba.toNat + 1) * D.driver.sectorSize) := by
  by_cases hin : D.sectorAddress ≤ a ∧ a < D.sectorAddress + bytes.length
  · right
    rw [hlen] at hin
    rwa [Nat.succ_mul]
  · left
    rw [Device.storeSector_driver]
    exact Memory.read_writeBytes_other (by omega)

/-- Settles O19, by the cases of `exec_driver`. -/
theorem onlyTheseOperationsChangeAMedium : Obligations.OnlyTheseOperationsChangeAMedium := by
  intro i s t d h medium medium'
  obtain hdrv | ⟨buf, bytes, hi, hlen, hdrv⟩ | ⟨present, capacity, img, hi, hdrv⟩ | ⟨drv, hi⟩ := exec_driver h d
  · have hm : medium' = medium := congrArg Driver.medium hdrv
    exact ⟨fun a => .inl (by rw [hm]), .inl ⟨by rw [hm], by rw [hm]⟩, .inl (by rw [hdrv])⟩
  · refine ⟨fun a => ?_, .inl ?_, .inl (by rw [hdrv]; rfl)⟩
    · change (t.dev d).driver.medium.img.read a = _ ∨ _
      rw [hdrv]
      obtain hout | hin := storeSector_read hlen a
      · exact .inl hout
      · exact .inr (.inl ⟨buf, hi, hin⟩)
    · change (t.dev d).driver.medium.present = _ ∧ (t.dev d).driver.medium.capacity = _
      rw [hdrv]
      exact ⟨rfl, rfl⟩
  · exact ⟨fun a => .inr (.inr (.inl ⟨_, _, _, hi⟩)), .inr (.inl ⟨_, _, _, hi⟩), .inl (by rw [hdrv])⟩
  · exact ⟨fun a => .inr (.inr (.inr ⟨_, hi⟩)), .inr (.inr ⟨_, hi⟩), .inr ⟨_, hi⟩⟩

end Sys2Proof.Machine
end

section
/-! PROOFS. What the decoder can answer for an environment operation: only a canonical image and a record that obeys the
contract come through (30_encoding R100 to R104; 40_driver_capability R150 to R168). -/

namespace Sys2Proof

theorem mem_of_lookup {α β : Type} [BEq α] [LawfulBEq α] {l : List (α × β)} {k : α} {b : β} (h : l.lookup k = some b) :
    (k, b) ∈ l := by
  obtain ⟨l₁, l₂, rfl, -⟩ := List.lookup_eq_some_iff.mp h
  simp

/-- Every operation that the row can build is one of format PORT. -/
def PortRow.BuildsPort (row : PortRow) : Prop :=
  match row with
  | .plain i => (encode i).format = .port
  | .byte f => ∀ v, (encode (f v)).format = .port
  | .word f => ∀ v, (encode (f v)).format = .port
  | .dword f => ∀ v, (encode (f v)).format = .port

theorem fitValue_map_eq_ok {w : Nat} {value : BitVec 32} {f : BitVec w → Instr} {i : Instr}
    (h : (fitValue w value).map f = .ok i) : ∃ v, i = f v := by
  cases hv : fitValue w value with
  | error e => simp [hv, Except.map] at h
  | ok v => exact ⟨v, by simpa [hv, Except.map, eq_comm] using h⟩

theorem PortRow.BuildsPort.format {row : PortRow} {value : BitVec 32} {i : Instr} (hrow : row.BuildsPort)
    (h : row.build value = .ok i) : (encode i).format = .port := by
  cases row with
  | plain j => obtain rfl : j = i := Except.ok.inj h; exact hrow
  | byte f => obtain ⟨v, rfl⟩ := fitValue_map_eq_ok h; exact hrow v
  | word f => obtain ⟨v, rfl⟩ := fitValue_map_eq_ok h; exact hrow v
  | dword f => obtain rfl : f value = i := Except.ok.inj h; exact hrow value

theorem portTable_buildsPort : ∀ p ∈ portTable, p.2.BuildsPort := by
  simp [portTable, PortRow.BuildsPort, encode, Request.plain, Request.write]

theorem commandTable_format : ∀ p ∈ commandTable, (encode p.2).format = .cmd := by decide

theorem decodePort_format {code : Byte} {o : Operands} {i : Instr} (h : decodePort code o = .ok i) :
    (encode i).format = .port := by
  unfold decodePort at h
  split at h
  · rename_i row hrow
    exact (portTable_buildsPort _ (mem_of_lookup hrow)).format h
  · dsimp only at h
    split_ifs at h
    · obtain rfl := Except.ok.inj h
      rfl
    · obtain rfl := Except.ok.inj h
      rfl

theorem decodeCommand_format (v : Byte) : (encode (decodeCommand v)).format = .cmd := by
  unfold decodeCommand
  split
  · rename_i i hi
    exact commandTable_format _ (mem_of_lookup hi)
  · rfl

theorem decodeDmaif_format {code : Byte} {o : Operands} {i : Instr} (h : decodeDmaif code o = .ok i) :
    (encode i).format = .dmaif := by
  unfold decodeDmaif at h
  split_ifs at h <;> obtain rfl := Except.ok.inj h <;> rfl

theorem decodeEnv_wellFormed {code : Byte} {o : Operands} {i : Instr} (h : decodeEnv code o = .ok i) :
    i.wellFormed = true := by
  unfold decodeEnv at h
  split_ifs at h with _ himg _ hdrv
  · obtain rfl := Except.ok.inj h
    exact himg
  · obtain rfl := Except.ok.inj h
    exact hdrv

/-- An environment operation that was decoded is well formed. -/
theorem wellFormed_of_decode_env {q : Request} {i : Instr} (h : decode q = .ok i) (hi : (encode i).format = .env) :
    i.wellFormed = true := by
  unfold decode at h
  split at h
  · simp [decodePort_format h] at hi
  · obtain rfl := Except.ok.inj h
    simp [decodeCommand_format] at hi
  · simp [decodeDmaif_format h] at hi
  · exact decodeEnv_wellFormed h

end Sys2Proof
end

section
/-! PROOFS. The invariant of one device (10_state R41 to R49; 44_dma_engine R371 to R376; 45_pio_and_addressing R420), and what
each update of a device needs to keep it. -/

namespace Sys2Proof

/-! ### The contract under a change of the medium -/

/-- The contract of a record with another medium: a Null driver has no other, and a DVD takes every lawful one. -/
theorem Driver.conforms_withMedium {drv : Driver} {m : Medium} (h : drv.conforms = true) (hk : drv.kind ≠ .null)
    (hm : m.lawful = true) : ({ drv with medium := m } : Driver).conforms = true := by
  obtain ⟨-, hid, hip, hpk, hgeom, hkind⟩ := Driver.conforms_iff.mp h
  refine Driver.conforms_iff.mpr ⟨hm, hid, hip, hpk, hgeom, ?_⟩
  cases hd : drv.kind with
  | null => exact absurd hd hk
  | hdd => trivial
  | dvd =>
    rw [hd] at hkind
    exact ⟨hkind.1, hd ▸ congrArg (fun x : Driver => { x with medium := m }) hkind.2⟩

/-- Only a hard disk is writable (40_driver_capability R165, R166). -/
theorem Driver.kind_of_writable {drv : Driver} (h : drv.conforms = true) (hw : drv.writable = true) : drv.kind = .hdd := by
  obtain ⟨-, -, -, -, -, hkind⟩ := Driver.conforms_iff.mp h
  cases hd : drv.kind with
  | hdd => rfl
  | null =>
    rw [hd] at hkind
    have : drv.writable = false := congrArg Driver.writable hkind
    simp [this] at hw
  | dvd =>
    rw [hd] at hkind
    have : drv.writable = false := congrArg Driver.writable hkind.2
    simp [this] at hw

theorem Medium.lawful_iff {m : Medium} :
    m.lawful = true ↔ (m.present = true ∨ m.capacity = 0) ∧ Memory.wf m.img = true := by
  simp [Medium.lawful]

/-- Bytes stored in the medium of a writable driver keep its contract (40_driver_capability R159). -/
theorem Driver.conforms_withImage {drv : Driver} (h : drv.conforms = true) (hw : drv.writable = true) (a : Nat)
    (bs : List Byte) : (drv.withImage (Memory.writeBytes drv.medium.img a bs)).conforms = true := by
  obtain ⟨hcap, himg⟩ := Medium.lawful_iff.mp (Driver.conforms_iff.mp h).1
  refine Driver.conforms_withMedium h (by simp [Driver.kind_of_writable h hw]) ?_
  exact Medium.lawful_iff.mpr ⟨hcap, Memory.wf_writeBytes a bs himg⟩

theorem Driver.defaultGeometry_inRange {drv : Driver} (h : drv.conforms = true) {g : Geometry}
    (hg : drv.defaultGeometry = some g) : g.inRange = true := by
  obtain ⟨-, -, -, -, hgeom, -⟩ := Driver.conforms_iff.mp h
  simpa [hg] using hgeom

end Sys2Proof

namespace Sys2Proof.Machine

theorem newMedium_lawful (present : Bool) (capacity : Lba) {img : Memory} (h : Memory.wf img = true) :
    (newMedium present capacity img).lawful = true := by
  refine Medium.lawful_iff.mpr ⟨?_, h⟩
  cases present <;> simp [newMedium]

/-! ### A sound device -/

/-- The invariants that speak of one device alone (`SpecInvariants`, `Inv`). -/
structure Device.Sound (D : Device) : Prop where
  windowStart : D.dma.startLba.toNat ≤ D.dma.curLba.toNat
  windowEnd : D.dma.curLba.toNat ≤ D.dma.endLba.toNat
  idleWindow : D.transferActive = false → D.dma = .idle
  windowOpen : D.transferActive = true → D.dma.curLba.toNat < D.dma.endLba.toNat
  cursor : D.pioCursor ≤ pioBufSize
  geometry : ∀ g, D.geometry = some g → g.inRange = true
  buffer : Memory.isBlock D.pioBuf = true
  contract : D.driver.conforms = true

theorem Device.cursor_add_moveCount_le {D : Device} (h : D.pioCursor ≤ pioBufSize) (n : Nat) :
    D.pioCursor + D.moveCount n ≤ pioBufSize := by
  have hmove : D.moveCount n ≤ D.remaining := min_le_right _ _
  have hrem : D.remaining = pioBufSize - D.pioCursor := rfl
  omega

theorem Device.Sound.afterRead {D : Device} (h : D.Sound) (n : Nat) : (D.afterRead n).Sound :=
  { h with cursor := D.cursor_add_moveCount_le h.cursor n }

theorem Device.Sound.writeBuffer {D : Device} (h : D.Sound) (v : BitVec 32) (n : Nat) : (D.writeBuffer v n).Sound :=
  { h with
    cursor := D.cursor_add_moveCount_le h.cursor n
    buffer := Memory.isBlock_writeBytes h.buffer (by
      have := D.cursor_add_moveCount_le h.cursor n
      simpa [bytesOf, pioBufSize] using this) }

theorem Device.Sound.fill {D : Device} (h : D.Sound) {b : Block} (hb : Memory.isBlock b = true) : (D.fill b).Sound :=
  { h with cursor := Nat.zero_le _, buffer := hb }

theorem Device.Sound.rewind {D : Device} (h : D.Sound) : D.rewind.Sound :=
  { h with cursor := Nat.zero_le _ }

theorem Device.Sound.drain {D : Device} (h : D.Sound) : D.drain.Sound :=
  { h with cursor := le_refl _ }

theorem Device.Sound.endDma {D : Device} (h : D.Sound) : D.endDma.Sound :=
  { h with
    windowStart := le_refl _, windowEnd := le_refl _, idleWindow := fun _ => rfl
    windowOpen := fun hact => by simp at hact }

/-- A window that was armed has its start at its current LBA and at least one sector (44_dma_engine R371, R373). -/
theorem Device.Sound.arm {D : Device} (h : D.Sound) {w : CommandWord} {isWrite : Bool} {win : DmaWindow}
    (hwin : D.armedWindow w isWrite = some win) : (D.arm win).Sound := by
  obtain ⟨-, start, hstart, -⟩ := armedWindow_eq_some.mp hwin
  have hend := CommandWord.startLba_add_count_le h.geometry hstart
  have hcount := w.count_bounds.1
  obtain ⟨hs, hc, he, -⟩ := armedWindow_fields hstart (by omega) hwin
  have hopen : win.curLba.toNat < win.endLba.toNat := by omega
  exact { h with
    windowStart := by simp [hs, hc], windowEnd := hopen.le, idleWindow := fun hact => by simp at hact
    windowOpen := fun _ => hopen }

/-- The current LBA rises without wrapping, as long as it is not the last (44_dma_engine R374, R376). -/
theorem Device.advance_curLba {D : Device} (hopen : D.dma.curLba.toNat < D.dma.endLba.toNat) :
    D.advance.dma.curLba.toNat = D.dma.curLba.toNat + 1 := by
  have := D.dma.endLba.isLt
  rw [Device.advance_dma, BitVec.toNat_ofNat, Nat.mod_eq_of_lt (by omega)]

/-- A device goes on after a sector that was not the last. -/
theorem Device.Sound.advance {D : Device} (h : D.Sound) (hact : D.transferActive = true)
    (hfin : D.advance.isDmaFinished = false) : D.advance.Sound := by
  have hopen := h.windowOpen hact
  have hcur := Device.advance_curLba hopen
  have hstart := h.windowStart
  have hne : D.advance.dma.curLba.toNat ≠ D.dma.endLba.toNat := fun heq =>
    of_decide_eq_false hfin (BitVec.eq_of_toNat_eq heq)
  have hopen' : D.advance.dma.curLba.toNat < D.dma.endLba.toNat := by omega
  exact { h with
    windowStart := by rw [hcur]; exact hstart.trans (Nat.le_succ _)
    windowEnd := hopen'.le, idleWindow := fun hidle => by simp [hact] at hidle, windowOpen := fun _ => hopen' }

theorem Device.Sound.storeSector {D : Device} (h : D.Sound) (hw : D.driver.writable = true) (bs : List Byte) :
    (D.storeSector bs).Sound :=
  { h with contract := Driver.conforms_withImage h.contract hw _ bs }

theorem Device.Sound.defaultSettings {D : Device} (h : D.Sound) : D.defaultSettings.Sound :=
  { h with geometry := fun _ => Driver.defaultGeometry_inRange h.contract }

theorem Device.Sound.changeMedium {D : Device} (h : D.Sound) {m : Medium} (hk : D.driver.kind = .dvd)
    (hm : m.lawful = true) : (D.changeMedium m).Sound :=
  { h with contract := Driver.conforms_withMedium h.contract (by simp [hk]) hm }

theorem Device.Sound.attach {D : Device} (h : D.Sound) {drv : Driver} (hd : drv.conforms = true) : (D.attach drv).Sound :=
  { h with
    windowStart := le_refl _, windowEnd := le_refl _, idleWindow := fun _ => rfl
    windowOpen := fun hact => by simp at hact
    cursor := le_refl _, geometry := fun _ => Driver.defaultGeometry_inRange hd, contract := hd }

/-- The operand of INITIALIZE DEVICE PARAMETERS is a geometry of 1 to 16 heads and, unless it is 0, 1 to 255 sectors
(30_encoding R114). -/
theorem CommandWord.geometry_inRange {w : CommandWord} (h : w.spt ≠ 0) :
    ({ heads := w.heads, spt := w.spt } : Geometry).inRange = true := by
  have hheads : w.heads = w.hs.toNat + 1 := rfl
  have hhs := w.hs.isLt
  have hspt : w.spt < 2 ^ 8 := w.sc.isLt
  have hbounds : (1 ≤ w.heads ∧ w.heads ≤ 16) ∧ 1 ≤ w.spt ∧ w.spt ≤ 255 := by omega
  exact Geometry.inRange_iff.mpr hbounds

end Sys2Proof.Machine
end

section
/-! PROOFS. The invariant of the channel (10_state R49): `Inv` said device by device and phase by phase, and that every effect
keeps it. -/

namespace Sys2Proof.Machine

/-! ### The invariant by parts -/

/-- Status and Error hold one of the block's values; Status is `ST_BUSY` while SRST is held, and only then (10_state R22,
R29; 70_reset_and_hazards R604). -/
structure Regs.Sound (r : Regs) : Prop where
  busy : Machine.srst r.devCtl = true → r.status = stBusy
  ready : Machine.srst r.devCtl = false →
    r.status = stOk ∨ r.status = stErr ∨ r.status = stDrq ∨ r.status = stSigNone
  error : r.error = errNone ∨ r.error = errAbrt ∨ r.error = errReset

/-- What holds of the two devices whatever command is in flight. -/
structure DevicesSound (s : State) : Prop where
  device : ∀ d, (s.dev d).Sound
  exclusive : (s.dev .master).driver.id ≠ (s.dev .slave).driver.id

/-- No device has an active transfer. -/
def NoTransfer (s : State) : Prop := ∀ d, (s.dev d).transferActive = false

/-- What holds while `c` is the current command: it is in its data phase outside reset, its device alone has a transfer if it
is a DMA command, and its buffer has a byte to move if it is a PIO command (10_state R49, 42_command_engine R252). -/
structure InDataPhase (s : State) (c : Command) : Prop where
  phase : c.phase = .dataPhase
  movesData : c.proto ≠ .nonData
  notReset : s.srst = false
  status : s.regs.status = stDrq
  transfer : ∀ d, (s.dev d).transferActive = true ↔ c.proto = .dma ∧ c.d = d
  bufferOpen : (c.proto = .pioIn ∨ c.proto = .pioOut) → (s.dev c.d).pioCursor < pioBufSize

/-- The invariant of the channel: sound devices and registers, and the link between them and the current command. -/
structure Sound (s : State) : Prop extends DevicesSound s where
  regs : s.regs.Sound
  settled : s.cur = none → NoTransfer s
  current : ∀ c, s.cur = some c → InDataPhase s c

theorem bsy_eq_false {b : Byte} (h : b = stOk ∨ b = stErr ∨ b = stDrq ∨ b = stSigNone) : bsy b = false := by
  rcases h with rfl | rfl | rfl | rfl <;> rfl

theorem Inv.sound {s : State} (h : Inv s) : Sound s where
  device d :=
    { windowStart := h.windowStart d, windowEnd := h.window d, idleWindow := h.idleWindow d, windowOpen := h.windowOpen d
      cursor := h.cursor d, geometry := h.geometries d, buffer := h.buffers d, contract := h.contracts d }
  exclusive := h.exclusive
  regs :=
    { busy := fun hs => (h.resetHeld hs).2
      ready := fun hs => by
        have hbsy := h.notBusy hs
        obtain hv | hv | hv | hv | hv := h.statusValues
        · exact .inl hv
        · exact .inr (.inl hv)
        · exact .inr (.inr (.inl hv))
        · rw [hv] at hbsy
          exact absurd hbsy (by decide)
        · exact .inr (.inr (.inr hv))
      error := h.errorValues }
  settled hc d := by
    by_contra hact
    obtain ⟨c, hcur, -⟩ := h.activeIsDma ⟨d, by simpa using hact⟩
    simp [hc] at hcur
  current c hc :=
    { phase := h.phase c hc
      movesData := h.movesData c hc
      notReset := by
        by_contra hs
        have hnone := (h.resetHeld (by simpa using hs)).1
        simp [hc] at hnone
      status := h.drqWhileCurrent c hc
      transfer := fun d => by
        constructor
        · intro hact
          obtain ⟨c', hc', hdma, hd⟩ := h.activeOwner d hact
          obtain rfl : c = c' := Option.some.inj (hc.symm.trans hc')
          exact ⟨hdma, hd⟩
        · rintro ⟨hdma, rfl⟩
          exact (h.dmaPhase c hc).mp ⟨h.phase c hc, hdma⟩
      bufferOpen := h.bufferOpen c hc }

/-- A transfer belongs to the current DMA command. -/
theorem Sound.owner {s : State} (h : Sound s) {d : Slot} (hact : (s.dev d).transferActive = true) :
    ∃ c, s.cur = some c ∧ c.proto = .dma ∧ c.d = d := by
  cases hc : s.cur with
  | none => simp [h.settled hc d] at hact
  | some c =>
    obtain ⟨hdma, hd⟩ := ((h.current c hc).transfer d).mp hact
    exact ⟨c, rfl, hdma, hd⟩

theorem Sound.inv {s : State} (h : Sound s) : Inv s where
  window d := (h.device d).windowEnd
  cursor d := (h.device d).cursor
  activeIsDma := by
    rintro ⟨d, hact⟩
    obtain ⟨c, hc, hdma, -⟩ := h.owner hact
    exact ⟨c, hc, hdma⟩
  pioHasNoTransfer c hc hpio d := by
    by_contra hact
    obtain ⟨hdma, -⟩ := ((h.current c hc).transfer d).mp (by simpa using hact)
    simp [hdma] at hpio
  phase c hc := (h.current c hc).phase
  dmaPhase c hc := by
    rw [(h.current c hc).transfer c.d]
    simp [(h.current c hc).phase]
  idleWindow d := (h.device d).idleWindow
  notBusy hs := bsy_eq_false (h.regs.ready hs)
  drqWhileCurrent c hc := (h.current c hc).status
  activeOwner d := h.owner
  windowOpen d := (h.device d).windowOpen
  windowStart d := (h.device d).windowStart
  bufferOpen c hc := (h.current c hc).bufferOpen
  movesData c hc := (h.current c hc).movesData
  resetHeld hs := by
    refine ⟨?_, h.regs.busy hs⟩
    cases hc : s.cur with
    | none => rfl
    | some c => exact absurd hs (by simp [(h.current c hc).notReset])
  statusValues := by
    cases hs : s.srst with
    | true => exact .inr (.inr (.inr (.inl (h.regs.busy hs))))
    | false =>
      obtain hv | hv | hv | hv := h.regs.ready hs
      · exact .inl hv
      · exact .inr (.inl hv)
      · exact .inr (.inr (.inl hv))
      · exact .inr (.inr (.inr (.inr hv)))
  errorValues := h.regs.error
  geometries d := (h.device d).geometry
  buffers d := (h.device d).buffer
  contracts d := (h.device d).contract
  exclusive := h.exclusive

/-! ### Updates that keep the parts -/

/-- The invariant reads the registers, the current command and the devices alone. -/
theorem Sound.congr {s t : State} (h : Sound s) (hregs : t.regs = s.regs) (hcur : t.cur = s.cur)
    (hdev : ∀ d, t.dev d = s.dev d) : Sound t where
  device d := hdev d ▸ h.device d
  exclusive := by
    rw [hdev, hdev]
    exact h.exclusive
  regs := hregs ▸ h.regs
  settled hc d := hdev d ▸ h.settled (hcur ▸ hc) d
  current c hc := by
    have hphase := h.current c (hcur ▸ hc)
    exact
      { phase := hphase.phase, movesData := hphase.movesData
        notReset := by
          have := hphase.notReset
          rwa [State.srst, hregs]
        status := by rw [hregs]; exact hphase.status
        transfer := fun d => by rw [hdev]; exact hphase.transfer d
        bufferOpen := by rw [hdev]; exact hphase.bufferOpen }

/-- A device replaced by a sound one with a record of the same name. -/
theorem DevicesSound.setDev {s : State} (h : DevicesSound s) {d : Slot} {D : Device} (hD : D.Sound)
    (hid : D.driver.id = (s.dev d).driver.id) : DevicesSound (s.setDev d D) where
  device d' := by
    rw [State.setDev_dev]
    split
    · exact hD
    · exact h.device d'
  exclusive := by
    have := h.exclusive
    cases d
    · simpa [State.setDev_dev, hid] using this
    · simpa [State.setDev_dev, hid] using this

/-- A device replaced by a sound one with a record of the same name and the same transfer, whose buffer has a byte to move if
the current command needs one there. -/
theorem Sound.setDev {s : State} (h : Sound s) {d : Slot} {D : Device} (hD : D.Sound)
    (hid : D.driver.id = (s.dev d).driver.id) (hact : D.transferActive = (s.dev d).transferActive)
    (hopen : ∀ c, s.cur = some c → c.d = d → (c.proto = .pioIn ∨ c.proto = .pioOut) → D.pioCursor < pioBufSize) :
    Sound (s.setDev d D) := by
  have htransfer : ∀ d', ((s.setDev d D).dev d').transferActive = (s.dev d').transferActive := fun d' => by
    rw [State.setDev_dev]
    split
    · rename_i hd
      rw [hact, hd]
    · rfl
  exact
  { h.toDevicesSound.setDev hD hid with
    regs := by simpa using h.regs
    settled := fun hc d' => by
      rw [State.setDev_cur] at hc
      rw [htransfer]
      exact h.settled hc d'
    current := fun c hc => by
      rw [State.setDev_cur] at hc
      have hphase := h.current c hc
      exact
      { phase := hphase.phase, movesData := hphase.movesData
        notReset := by rw [State.srst, State.setDev_regs]; exact hphase.notReset
        status := by rw [State.setDev_regs]; exact hphase.status
        transfer := fun d' => by rw [htransfer]; exact hphase.transfer d'
        bufferOpen := fun hpio => by
          rw [State.setDev_dev]
          split
          · rename_i hd
            exact hopen c hc hd hpio
          · exact hphase.bufferOpen hpio } }

theorem DevicesSound.congr {s t : State} (h : DevicesSound s) (hdev : ∀ d, t.dev d = s.dev d) : DevicesSound t where
  device d := hdev d ▸ h.device d
  exclusive := by
    rw [hdev, hdev]
    exact h.exclusive

/-- A channel without a command and without a transfer is sound when its devices and registers are. -/
theorem sound_of_settled {s : State} (hdev : DevicesSound s) (hregs : s.regs.Sound) (hcur : s.cur = none)
    (hidle : NoTransfer s) : Sound s :=
  { hdev with regs := hregs, settled := fun _ => hidle, current := fun c hc => by simp [hcur] at hc }

theorem completionRegs_sound {r : Regs} (hs : Machine.srst r.devCtl = false) (ok : Bool) : (completionRegs r ok).Sound where
  busy := by simp [hs]
  ready _ := by cases ok <;> simp
  error := by cases ok <;> simp

/-- Outside reset the completion of a command leaves a sound channel, once no transfer is active (42_command_engine R257). -/
theorem sound_complete {s : State} (hdev : DevicesSound s) (hs : s.srst = false) (hidle : NoTransfer s) (c : Command)
    (ok : Bool) : Sound (complete c ok s) :=
  sound_of_settled (hdev.congr (by simp)) (completionRegs_sound hs ok) rfl fun d => by simpa using hidle d

/-- Entering a data phase leaves a sound channel, when the devices are as that phase needs them (42_command_engine R255). -/
theorem sound_enterDataPhase {s : State} (hdev : DevicesSound s) (hs : s.srst = false) {c : Command} (b : Bool)
    (hproto : c.proto ≠ .nonData) (htransfer : ∀ d, (s.dev d).transferActive = true ↔ c.proto = .dma ∧ c.d = d)
    (hopen : (c.proto = .pioIn ∨ c.proto = .pioOut) → (s.dev c.d).pioCursor < pioBufSize) :
    Sound (enterDataPhase c b s) := by
  have hs' : Machine.srst s.regs.devCtl = false := hs
  exact
  { hdev.congr (enterDataPhase_dev c b s) with
    regs := by
      rw [enterDataPhase_regs]
      exact { busy := by simp [hs'], ready := by simp, error := by simp }
    settled := by simp
    current := by
      intro c' hc'
      rw [enterDataPhase_cur] at hc'
      obtain rfl := Option.some.inj hc'
      exact
      { phase := rfl, movesData := hproto
        notReset := by rw [State.srst, enterDataPhase_regs]; exact hs'
        status := by rw [enterDataPhase_regs]
        transfer := by simpa using htransfer
        bufferOpen := by simpa using hopen } }

end Sys2Proof.Machine
end

section
/-! PROOFS. Every effect keeps the invariant of the channel, and so does every step. -/

namespace Sys2Proof.Machine

/-- The effect keeps the invariant of the channel. -/
def KeepsSound (f : State → State) : Prop := ∀ s, Sound s → Sound (f s)

/-! ### The commands -/

/-- What a command starts from: a sound channel outside reset without a command (41_register_access R215). -/
structure Ready (s : State) : Prop extends Sound s where
  noCommand : s.cur = none
  notReset : s.srst = false

/-- From a state that is ready the effect leads to a sound one. -/
def Runs (f : State → State) : Prop := ∀ s, Ready s → Sound (f s)

theorem Ready.idle {s : State} (h : Ready s) : NoTransfer s := h.settled h.noCommand

theorem Ready.complete {s : State} (h : Ready s) (c : Command) (ok : Bool) : Sound (complete c ok s) :=
  sound_complete h.toDevicesSound h.notReset h.idle c ok

theorem Ready.emit {s : State} (h : Ready s) (e : Event) : Ready (s.emit e) :=
  { h.toSound.congr (t := s.emit e) rfl rfl (by simp) with noCommand := h.noCommand, notReset := h.notReset }

/-- A device replaced by a sound one without a transfer. -/
theorem Ready.setDev {s : State} (h : Ready s) {d : Slot} {D : Device} (hD : D.Sound)
    (hid : D.driver.id = (s.dev d).driver.id) (hidle : D.transferActive = false) : Ready (s.setDev d D) :=
  { h.toSound.setDev hD hid (hidle.trans (h.idle d).symm) fun c hc => by simp [h.noCommand] at hc with
    noCommand := by simpa using h.noCommand
    notReset := by rw [State.srst, State.setDev_regs]; exact h.notReset }

/-- A PIO command opens its data phase on a buffer with a byte to move (42_command_engine R255, R256, R258). -/
theorem Ready.enterPioPhase {s : State} (h : Ready s) {c : Command} (b : Bool) (hpio : c.proto = .pioIn ∨ c.proto = .pioOut)
    (hopen : (s.dev c.d).pioCursor < pioBufSize) : Sound (enterDataPhase c b s) := by
  have hdma : c.proto ≠ .dma := by rcases hpio with hp | hp <;> simp [hp]
  have hnon : c.proto ≠ .nonData := by rcases hpio with hp | hp <;> simp [hp]
  exact sound_enterDataPhase h.toDevicesSound h.notReset b hnon (fun d => by simp [h.idle d, hdma]) fun _ => hopen

theorem startCommand_runs {v : Byte} {proto : Proto} {execute : Command → State → State}
    (h : ∀ c, c.proto = proto → Runs (execute c)) : Runs (startCommand v proto execute) :=
  fun _ hs => h _ rfl _ (hs.emit _)

/-- An identify command with no record fails; with a record it fills the buffer (43_ata_commands R300, R305). -/
theorem identifyWith_sound {c : Command} (hc : c.proto = .pioIn) {record : Option Block}
    (hrec : ∀ b, record = some b → Memory.isBlock b = true) {s : State} (hs : Ready s) :
    Sound (identifyWith c record s) := by
  cases record with
  | none => exact hs.complete c false
  | some b =>
    have hfill : Ready (s.setDev c.d ((s.dev c.d).fill b)) := hs.setDev ((hs.device c.d).fill (hrec b rfl)) rfl (hs.idle c.d)
    exact hfill.enterPioPhase true (.inl hc) (by simp [pioBufSize])

theorem identifyDevice_runs {c : Command} (hc : c.proto = .pioIn) : Runs (identifyDevice c) := fun _ hs =>
  identifyWith_sound hc (fun _ => Driver.identifyRecord_isBlock (hs.device c.d).contract) hs

theorem identifyPacketDevice_runs {c : Command} (hc : c.proto = .pioIn) : Runs (identifyPacketDevice c) := fun _ hs =>
  identifyWith_sound hc (fun _ => Driver.identifyPacketRecord_isBlock (hs.device c.d).contract) hs

theorem initializeDeviceParameters_runs (c : Command) : Runs (initializeDeviceParameters c) := by
  intro s hs
  rw [initializeDeviceParameters, nonDataExecute]
  obtain h | ⟨hspt, -, h⟩ := initializeStep_cases c s
  · rw [h]
    exact hs.complete c false
  · rw [h]
    have hgeom : Device.Sound { s.dev c.d with
        geometry := some { heads := s.regs.commandWord.heads, spt := s.regs.commandWord.spt } } :=
      { hs.device c.d with geometry := fun g hg => Option.some.inj hg ▸ CommandWord.geometry_inRange hspt }
    exact (hs.setDev hgeom rfl (hs.idle c.d)).complete c true

theorem setFeatures_runs (c : Command) : Runs (setFeatures c) := by
  intro s hs
  rw [setFeatures, nonDataExecute]
  obtain ⟨m, h⟩ | ⟨-, -, ⟨m, -, -, h⟩ | ⟨k, m, -, -, h⟩⟩ := setFeaturesStep_cases c s
  · rw [h]
    exact (hs.emit _).complete c false
  · rw [h]
    exact (hs.setDev (D := { s.dev c.d with pioMode := m }) { hs.device c.d with } rfl (hs.idle c.d)).complete c true
  · rw [h]
    exact (hs.setDev (D := { s.dev c.d with dmaMode := some (k, m) }) { hs.device c.d with } rfl (hs.idle c.d)).complete c
      true

theorem securityUnlock_runs {c : Command} (hc : c.proto = .pioOut) : Runs (securityUnlock c) := by
  intro s hs
  have hrewind : Ready (s.setDev c.d (s.dev c.d).rewind) := hs.setDev (hs.device c.d).rewind rfl (hs.idle c.d)
  exact hrewind.enterPioPhase false (.inr hc) (by simp [pioBufSize])

/-- A DMA command arms the window of its device and no other, or fails (43_ata_commands R330, R335). -/
theorem dmaCommand_runs (isWrite : Bool) {c : Command} (hc : c.proto = .dma) : Runs (dmaCommand isWrite c) := by
  intro s hs
  unfold dmaCommand
  split
  · exact hs.complete c false
  · rename_i win hwin
    refine sound_enterDataPhase (hs.toDevicesSound.setDev ((hs.device c.d).arm hwin) rfl) ?_ false (by simp [hc])
      (fun d => ?_) (by simp [hc])
    · rw [State.srst, State.setDev_regs]
      exact hs.notReset
    · rw [State.setDev_dev]
      split
      · rename_i hd
        simp [hc, hd]
      · rename_i hd
        simp [hs.idle d, hc, Ne.symm hd]

/-- A refusal is recorded and nothing else changes (60_exceptions R531). -/
theorem Sound.refuse {s : State} (h : Sound s) (r : RefuseReason) : Sound (s.refuse r) := h.congr rfl rfl (by simp)

theorem Sound.raiseFault {s : State} (h : Sound s) (r : FaultReason) : Sound (s.raiseFault r) := h.congr rfl rfl (by simp)

theorem unsupportedCommand_runs (v : Byte) : Runs (unsupportedCommand v) := by
  intro s hs
  unfold unsupportedCommand
  split
  · exact ((hs.emit _).emit _).complete _ false
  · exact hs.toSound.refuse _

theorem CommandRun.runs {v : Byte} {run : State → State} (h : CommandRun v run) : Runs run := by
  cases h with
  | identifyDevice => exact startCommand_runs fun _ => identifyDevice_runs
  | identifyPacketDevice => exact startCommand_runs fun _ => identifyPacketDevice_runs
  | initializeDeviceParameters => exact startCommand_runs fun c _ => initializeDeviceParameters_runs c
  | setFeatures => exact startCommand_runs fun c _ => setFeatures_runs c
  | securityUnlock => exact startCommand_runs fun _ => securityUnlock_runs
  | readDma => exact startCommand_runs fun _ => dmaCommand_runs false
  | writeDma => exact startCommand_runs fun _ => dmaCommand_runs true
  | packet => exact fun _ hs => hs.toSound.refuse _
  | unsupported => exact unsupportedCommand_runs v

/-- Registers that agree in Error, Status and Device Control may be put in place. -/
theorem Sound.setRegs {s : State} (h : Sound s) {r : Regs} (he : r.error = s.regs.error) (hst : r.status = s.regs.status)
    (hdc : Machine.srst r.devCtl = Machine.srst s.regs.devCtl) : Sound (s.setRegs r) where
  device d := by simpa using h.device d
  exclusive := by simpa using h.exclusive
  regs := { busy := by simpa [hst, hdc] using h.regs.busy, ready := by simpa [hst, hdc] using h.regs.ready
            error := by simpa [he] using h.regs.error }
  settled hc d := by simpa using h.settled hc d
  current c hc :=
    { h.current c hc with
      notReset := hdc.trans (h.current c hc).notReset
      status := hst.trans (h.current c hc).status
      transfer := by simpa using (h.current c hc).transfer
      bufferOpen := by simpa using (h.current c hc).bufferOpen }

theorem Sound.setInt {s : State} (h : Sound s) (b : Bool) : Sound (s.setInt b) := h.congr rfl rfl (by simp)

theorem commandEffect_keepsSound {v : Byte} {run : State → State} (hrun : Runs run) : KeepsSound (commandEffect v run) := by
  intro s h
  obtain ⟨r, heq⟩ | ⟨hs, hc, heq⟩ := commandEffect_cases v run s
  · rw [heq]
    exact h.raiseFault r
  · rw [heq]
    exact hrun _ { (h.setRegs (r := { s.regs with command := v }) rfl rfl rfl).setInt false with
      noCommand := hc, notReset := hs }

/-! ### The data port -/

/-- In a PIO data phase no device has a transfer (10_state R49, I3). -/
theorem InDataPhase.noTransfer {s : State} {c : Command} (h : InDataPhase s c) (hc : c.proto ≠ .dma) : NoTransfer s := by
  intro d
  by_contra hact
  exact hc ((h.transfer d).mp (by simpa using hact)).1

/-- The device of the current command replaced by one without a transfer leaves no transfer at all. -/
theorem InDataPhase.noTransfer_setDev {s : State} {c : Command} (h : InDataPhase s c) {D : Device}
    (hact : D.transferActive = false) : NoTransfer (s.setDev c.d D) := by
  intro d
  rw [State.setDev_dev]
  split
  · exact hact
  · rename_i hd
    by_contra ha
    exact hd ((h.transfer d).mp (by simpa using ha)).2.symm

theorem pioInComplete_sound {s : State} (hdev : DevicesSound s) (hs : s.srst = false) (herr : s.regs.Sound)
    (hidle : NoTransfer s) (c : Command) : Sound (pioInComplete c s) := by
  have hs' : Machine.srst s.regs.devCtl = false := hs
  refine sound_of_settled (hdev.congr fun d => by simp [pioInComplete]) ?_ rfl fun d => by
    simpa [pioInComplete] using hidle d
  exact { busy := by simp [pioInComplete, hs'], ready := by simp [pioInComplete], error := herr.error }

theorem pioOutComplete_sound {s : State} (hdev : DevicesSound s) (hs : s.srst = false) (hidle : NoTransfer s) (c : Command) :
    Sound (pioOutComplete c s) := by
  refine sound_complete (hdev.setDev (hdev.device c.d).drain rfl) ?_ (fun d => ?_) c _
  · rw [State.srst, State.setDev_regs]
    exact hs
  · rw [State.setDev_dev]
    split
    · exact hidle c.d
    · exact hidle d

/-- A data read moves the cursor on, and the access that reaches the end of the buffer ends the command (41_register_access
R210). -/
theorem rdData_keepsSound (n : Width) : KeepsSound (rdData n) := by
  intro s h
  unfold rdData
  split
  · exact h.congr rfl rfl (by simp)
  · rename_i c hopen
    obtain ⟨hc, hpio⟩ := openPhase_eq_some.mp hopen
    have hD := (h.device c.d).afterRead n.bytes
    have hidle : ((s.dev c.d).afterRead n.bytes).transferActive = false := (h.current c hc).noTransfer (by simp [hpio]) c.d
    dsimp only
    generalize hu : ((s.setReply _).skipDraws _) = u
    have husound : Sound u := hu ▸ h.congr rfl rfl (by simp)
    have hucur : u.cur = some c := hu ▸ hc
    have hudev : u.dev c.d = s.dev c.d := by simp [← hu]
    have huphase := husound.current c hucur
    split_ifs with hend
    · refine pioInComplete_sound (husound.toDevicesSound.setDev hD (by rw [hudev]; rfl)) ?_ ?_
        (huphase.noTransfer_setDev hidle) c
      · rw [State.srst, State.setDev_regs]
        exact huphase.notReset
      · rw [State.setDev_regs]
        exact husound.regs
    · refine husound.setDev hD (by rw [hudev]; rfl) (by rw [hudev]; rfl) fun _ _ _ _ => ?_
      rw [State.setDev_dev_same] at hend
      exact lt_of_le_of_ne hD.cursor hend

/-- A data write fills the buffer, and the access that reaches its end ends the command (41_register_access R212). -/
theorem wrData_keepsSound (n : Width) (v : BitVec 32) : KeepsSound (wrData n v) := by
  intro s h
  unfold wrData
  split
  · exact h.congr rfl rfl (by simp)
  · rename_i c hopen
    obtain ⟨hc, hpio⟩ := openPhase_eq_some.mp hopen
    have hphase := h.current c hc
    have hD := (h.device c.d).writeBuffer v n.bytes
    dsimp only
    split_ifs with hend
    · refine pioOutComplete_sound (h.toDevicesSound.setDev hD rfl) ?_
        (hphase.noTransfer_setDev (hphase.noTransfer (by simp [hpio]) c.d)) c
      rw [State.srst, State.setDev_regs]
      exact hphase.notReset
    · refine h.setDev hD rfl rfl fun _ _ _ _ => ?_
      rw [State.setDev_dev_same] at hend
      exact lt_of_le_of_ne hD.cursor hend

/-! ### The registers -/

theorem rdReg_keepsSound (f : Regs → Byte) : KeepsSound (rdReg f) := fun _ h => h.congr rfl rfl (by simp [rdReg])

theorem rdStatus_keepsSound : KeepsSound rdStatus := fun _ h => h.congr rfl rfl (by simp [rdStatus, rdReg])

theorem wrTask_keepsSound (reg : TaskReg) (v : Byte) : KeepsSound (wrTask reg v) := by
  intro s h
  unfold wrTask
  split_ifs
  · exact h.raiseFault _
  · exact h.raiseFault _
  · cases reg <;> exact h.setRegs rfl rfl rfl

theorem abandonCommand_cur (s : State) : (abandonCommand s).cur = none := by
  unfold abandonCommand
  split
  · assumption
  · rfl

theorem abandonCommand_regs (s : State) : (abandonCommand s).regs = s.regs := by
  unfold abandonCommand
  split <;> rfl

theorem softResetAssert_dev (s : State) (d : Slot) : (softResetAssert s).dev d = (s.dev d).endDma.drain := by
  rw [← abandonCommand_dev s d]
  cases d <;> rfl

theorem softResetAssert_regs (s : State) : (softResetAssert s).regs = { s.regs with status := stBusy } := by
  rw [← abandonCommand_regs s]
  rfl

/-- While SRST is asserted both windows are idle, both buffers are empty and no command is current (70_reset_and_hazards
R601). -/
theorem softResetAssert_sound {s : State} (hdev : DevicesSound s) (hs : s.srst = true)
    (herr : s.regs.error = errNone ∨ s.regs.error = errAbrt ∨ s.regs.error = errReset) : Sound (softResetAssert s) := by
  have hs' : Machine.srst s.regs.devCtl = true := hs
  refine sound_of_settled ?_ ?_ (abandonCommand_cur s) fun d => by simp [softResetAssert_dev]
  · exact { device := fun d => by rw [softResetAssert_dev]; exact (hdev.device d).endDma.drain
            exclusive := by rw [softResetAssert_dev, softResetAssert_dev]; exact hdev.exclusive }
  · rw [softResetAssert_regs]
    exact { busy := fun _ => rfl, ready := by simp [hs'], error := herr }

/-- The release of soft reset loads the signature (70_reset_and_hazards R602). -/
theorem softResetRelease_sound {s : State} (hdev : DevicesSound s) (hs : s.srst = false) (hcur : s.cur = none)
    (hidle : NoTransfer s) : Sound (softResetRelease s) := by
  have hs' : Machine.srst s.regs.devCtl = false := hs
  refine sound_of_settled ?_ ?_ hcur fun d => ?_
  · exact { device := fun d => by rw [softResetRelease_dev]; exact (hdev.device d).defaultSettings
            exclusive := hdev.exclusive }
  · refine { busy := fun h => ?_, ready := fun _ => ?_, error := .inr (.inr rfl) }
    · exact absurd (hs'.symm.trans h) (by decide)
    · change signatureStatus _ = _ ∨ signatureStatus _ = _ ∨ signatureStatus _ = _ ∨ signatureStatus _ = _
      unfold signatureStatus
      split_ifs
      · exact .inl rfl
      · exact .inr (.inr (.inr rfl))
  · rw [softResetRelease_dev]
    exact hidle d

theorem wrDevCtl_keepsSound (v : Byte) : KeepsSound (wrDevCtl v) := by
  intro s h
  have hdev : DevicesSound (s.setRegs { s.regs with devCtl := v }) := h.toDevicesSound.congr (by simp)
  by_cases hrise : Machine.srst s.regs.devCtl = false ∧ Machine.srst v = true
  · rw [wrDevCtl_of_rise hrise]
    exact softResetAssert_sound hdev hrise.2 h.regs.error
  by_cases hfall : Machine.srst s.regs.devCtl = true ∧ Machine.srst v = false
  · rw [wrDevCtl_of_fall hfall]
    have hcur : s.cur = none := (h.inv.resetHeld hfall.1).1
    exact softResetRelease_sound hdev hfall.2 hcur fun d => by simpa using h.settled hcur d
  · rw [wrDevCtl_of_level hrise hfall]
    refine h.setRegs rfl rfl ?_
    cases hold : Machine.srst s.regs.devCtl <;> cases hnew : Machine.srst v <;> simp_all

/-! ### The bus master -/

/-- The end of the current DMA command, in a state `u` that differs from a sound one in the device of the command, leaves a
sound channel without a transfer (42_command_engine R259). -/
theorem dmaComplete_sound {s u : State} (h : Sound s) {c : Command} (hc : s.cur = some c) {D : Device}
    (hid : D.driver.id = (s.dev c.d).driver.id) (hend : D.endDma.Sound) (hregs : u.regs = s.regs) (hcur : u.cur = s.cur)
    (hdev : ∀ d, u.dev d = (s.setDev c.d D).dev d) (ok : Bool) : Sound (dmaComplete ok u) := by
  have hphase := h.current c hc
  have hown : u.dev c.d = D := by simpa using hdev c.d
  have hended : ∀ d, (u.setDev c.d D.endDma).dev d = (s.setDev c.d D.endDma).dev d := fun d => by
    rw [State.setDev_dev, hdev, State.setDev_dev, State.setDev_dev]
    split <;> rfl
  rw [dmaComplete_of_cur (hcur.trans hc), hown]
  refine sound_complete ((h.toDevicesSound.setDev hend hid).congr hended) ?_ (fun d => ?_) c ok
  · rw [State.srst, State.setDev_regs, hregs]
    exact hphase.notReset
  · rw [hended]
    exact hphase.noTransfer_setDev rfl d

/-- What a sector transfer needs of the device `D` it leaves, to go on or to end its command soundly. -/
structure Transferred (D D' : Device) (ok : Bool) : Prop where
  id : D'.driver.id = D.driver.id
  active : D'.transferActive = D.transferActive
  ended : D'.endDma.Sound
  goesOn : ok = true → D'.isDmaFinished = false → D'.Sound

/-- After a sector the command fails, ends with its last sector, or goes on (44_dma_engine R381, R382). -/
theorem afterSector_sound {s : State} (h : Sound s) {c : Command} (hc : s.cur = some c) (hdma : c.proto = .dma)
    (answer : Reply) {moved : Bool × State} {D : Device} (hD : Transferred (s.dev c.d) D moved.1)
    (hregs : moved.2.regs = s.regs) (hcur : moved.2.cur = s.cur) (hdev : ∀ d, moved.2.dev d = (s.setDev c.d D).dev d) :
    Sound (afterSector c.d answer moved) := by
  have hown : moved.2.dev c.d = D := by simpa using hdev c.d
  have hend := dmaComplete_sound h hc hD.id hD.ended hregs hcur hdev
  unfold afterSector
  split_ifs with hok hfin
  · exact (hend true).congr rfl rfl (by simp)
  · rw [hown] at hfin
    have hgo : Sound (s.setDev c.d D) :=
      h.setDev (hD.goesOn hok (by simpa using hfin)) hD.id hD.active fun c' hc' _ hpio => by
        obtain rfl : c = c' := Option.some.inj (hc.symm.trans hc')
        simp [hdma] at hpio
    exact hgo.congr (by simp [hregs]) (by simp [hcur]) (by simpa using hdev)
  · exact (hend false).congr rfl rfl (by simp)

/-- A failed sector leaves the device as it was. -/
theorem Transferred.failed {D : Device} (h : D.Sound) : Transferred D D false :=
  { id := rfl, active := rfl, ended := h.endDma, goesOn := by simp }

theorem Transferred.advance {D : Device} (h : D.Sound) (hact : D.transferActive = true) : Transferred D D.advance true :=
  { id := rfl, active := rfl, ended := { h.endDma with }, goesOn := fun _ => h.advance hact }

theorem setDev_dev_self (s : State) (d d' : Slot) : (s.setDev d (s.dev d)).dev d' = s.dev d' := by
  rw [State.setDev_dev]
  split
  · subst d'
    rfl
  · rfl

theorem dmaReadSector_keepsSound (d : Slot) : KeepsSound (dmaReadSector d) := by
  intro s h
  unfold dmaReadSector
  split
  · exact h.raiseFault _
  · rename_i hwin
    obtain ⟨c, hc, hdma, rfl, hact, -⟩ := checkWindow_eq_none.mp hwin
    have hD := h.device c.d
    obtain ⟨s', rfl, -, -, heq⟩ | ⟨s', hs', heq⟩ := readDmaSector_cases c.d s
    · rw [heq]
      exact afterSector_sound h hc hdma _ (.advance hD hact) (by simp) (by simp) (by simp [State.setDev_dev])
    · rw [heq]
      refine afterSector_sound h hc hdma _ (.failed hD) ?_ ?_ fun d => ?_
      · rcases hs' with rfl | rfl <;> rfl
      · rcases hs' with rfl | rfl <;> rfl
      · rw [setDev_dev_self]
        rcases hs' with rfl | rfl <;> simp

theorem writable_of_writeChecks {drv : Driver} {a n : Nat} (h : drv.writeChecks a n = true) : drv.writable = true := by
  simp only [Driver.writeChecks, Bool.and_eq_true] at h
  exact h.1.1

theorem dmaWriteSector_keepsSound (d : Slot) (buf : List Byte) : KeepsSound (dmaWriteSector d buf) := by
  intro s h
  unfold dmaWriteSector
  split
  · exact h.raiseFault _
  · rename_i hwin
    obtain ⟨c, hc, hdma, rfl, hact, -⟩ := checkWindow_eq_none.mp hwin
    have hD := h.device c.d
    split_ifs
    · obtain ⟨hchk, -, heq⟩ | ⟨hchk, -, heq⟩ | ⟨-, heq⟩ := writeDmaSector_cases c.d buf s
      · have hstore := hD.storeSector (writable_of_writeChecks hchk) buf
        have hmoved : Transferred (s.dev c.d) ((s.dev c.d).storeSector buf).advance true :=
          { Transferred.advance hstore hact with }
        rw [heq]
        exact afterSector_sound h hc hdma _ hmoved (by simp) (by simp) (by simp [State.setDev_dev])
      · have hstore := hD.storeSector (writable_of_writeChecks hchk) (s.drawBytes (s.dev c.d).driver.sectorSize)
        rw [heq]
        exact afterSector_sound h hc hdma _ { Transferred.failed hstore with } (by simp) (by simp)
          (by simp [State.setDev_dev])
      · rw [heq]
        exact afterSector_sound h hc hdma _ (.failed hD) rfl rfl fun d => by simp [setDev_dev_self]
    · exact h.raiseFault _

theorem dmaAbort_keepsSound (d : Slot) : KeepsSound (dmaAbort d) := by
  intro s h
  have hdiag : ∀ m, Sound (s.diag m) := fun m => h.congr rfl rfl (by simp)
  unfold dmaAbort
  split
  · exact hdiag _
  · rename_i c hopen
    split_ifs
    · have hc := (openPhase_eq_some.mp hopen).1
      exact dmaComplete_sound (u := s.diag .dmaAborted) h hc rfl (h.device c.d).endDma rfl rfl
        (fun d => by simp [setDev_dev_self]) false
    · exact hdiag _

theorem dmaQuery_keepsSound (d : Slot) : KeepsSound (dmaQuery d) := fun _ h => h.congr rfl rfl (by simp [dmaQuery])

/-! ### The environment -/

/-- A medium change of a DVD keeps the invariant, in a data phase too (40_driver_capability R157, R170). -/
theorem changeMedium_sound {s : State} (h : Sound s) {d : Slot} {m : Medium} (hk : (s.dev d).driver.kind = .dvd)
    (hm : m.lawful = true) : Sound (s.setDev d ((s.dev d).changeMedium m)) :=
  h.setDev ((h.device d).changeMedium hk hm) rfl rfl fun c hc hd hpio => hd ▸ (h.current c hc).bufferOpen hpio

/-- ATTACH on a channel without a command, with a record that the other slot does not hold (40_driver_capability R169,
R172). -/
theorem attach_sound {s : State} (h : Sound s) {d : Slot} {drv : Driver} (hc : s.cur = none)
    (hid : drv.id ≠ (s.dev d.other).driver.id) (hdrv : drv.conforms = true) :
    Sound (s.setDev d ((s.dev d).attach drv)) := by
  refine sound_of_settled ?_ (by simpa using h.regs) (by simpa using hc) fun d' => ?_
  · refine { device := fun d' => ?_, exclusive := ?_ }
    · rw [State.setDev_dev]
      split
      · exact (h.device d).attach hdrv
      · exact h.device d'
    · cases d
      · exact hid
      · exact hid.symm
  · rw [State.setDev_dev]
    split
    · rfl
    · exact h.settled hc d'

/-! ### Every operation and every step -/

/-- Every effect keeps the invariant, under the condition of its operation and, in the environment, with operands that the
decoder lets through. -/
theorem Effect.keepsSound {i : Instr} {f : State → State} (hf : Effect i f) {s : State} (hall : envAllowed i s = true)
    (hwf : (encode i).format = .env → i.wellFormed = true) (h : Sound s) : Sound (f s) := by
  cases hf with
  | readData => exact rdData_keepsSound _ s h
  | writeData => exact wrData_keepsSound _ _ s h
  | readReg => exact rdReg_keepsSound _ s h
  | readStatus => exact rdStatus_keepsSound s h
  | writeTask reg v => exact wrTask_keepsSound reg v s h
  | writeDevCtl v => exact wrDevCtl_keepsSound v s h
  | refuse => exact h.refuse _
  | command _ hrun => exact commandEffect_keepsSound hrun.runs s h
  | readSector d => exact dmaReadSector_keepsSound d s h
  | writeSector d buf => exact dmaWriteSector_keepsSound d buf s h
  | abort d => exact dmaAbort_keepsSound d s h
  | query d => exact dmaQuery_keepsSound d s h
  | mediumChange d present capacity img =>
    exact changeMedium_sound h (by simpa [envAllowed] using hall) (newMedium_lawful present capacity (hwf rfl))
  | attach d drv =>
    obtain ⟨hc, hid⟩ : s.cur = none ∧ drv.id ≠ (s.dev d.other).driver.id := by simpa [envAllowed] using hall
    exact attach_sound h hc hid (hwf rfl)

/-- Every operation whose environment operands the decoder lets through keeps the invariant. -/
theorem exec_inv {i : Instr} {s t : State} (hwf : (encode i).format = .env → i.wellFormed = true) (hs : Inv s)
    (h : exec i s = .next t) : Inv t := by
  obtain ⟨f, hf, hall, -, rfl⟩ := exec_next h
  have hstart : Sound (s.setReply .none) := hs.sound.congr rfl rfl (by simp)
  have hall' : envAllowed i (s.setReply .none) = true :=
    (envAllowed_congr i (s.setReply_dev .none) rfl).trans hall
  exact ((hf.keepsSound hall' hwf hstart).congr (by simp) (by simp) (by simp)).inv

/-- A step stays where it is, or it runs the operation that the oldest request decodes to. -/
theorem step_next {s t : State} (h : step s = .next t) :
    t = s ∨ ∃ q rest i, s.inbox = q :: rest ∧ decode q = .ok i ∧ exec i (s.withInbox rest) = .next t := by
  have hl := live_of_step h
  cases hin : s.inbox with
  | nil =>
    rw [step_of_inbox_nil hl hin] at h
    exact .inl (Host.Outcome.next.inj h).symm
  | cons q rest =>
    rw [step_of_inbox_cons hl hin] at h
    cases hd : decode q with
    | error e => simp [runRequest_of_decode_error hd] at h
    | ok i =>
      rw [runRequest_of_decode_ok hd] at h
      exact .inr ⟨q, rest, i, rfl, hd, h⟩

/-- Settles O10, by the invariant's parts and the effect of each operation. -/
theorem everyStepKeepsTheInvariant : Obligations.EveryStepKeepsTheInvariant := by
  intro s t hs h
  obtain rfl | ⟨q, rest, i, -, hd, hexec⟩ := step_next h
  · exact hs
  · have hin : Inv (s.withInbox rest) := (hs.sound.congr (t := s.withInbox rest) rfl rfl (by simp)).inv
    exact exec_inv (wellFormed_of_decode_env hd) hin hexec

end Sys2Proof.Machine
end

section
/-! PROOFS. A written sector reads back: what the answer of a sector transfer says about the device, and the bytes of the
medium between a write and a read of one LBA (20_memory R84, R87; 44_dma_engine R381, R382). -/

namespace Sys2Proof.Machine

/-! ### What a sector transfer answers -/

/-- The bus master gets the answer of a transfer that succeeded, and `Fail` otherwise. -/
theorem afterSector_reply (d : Slot) (answer : Reply) (moved : Bool × State) :
    (afterSector d answer moved).reply = if moved.1 then answer else .failed := by
  unfold afterSector
  split_ifs <;> rfl

theorem afterSector_driver (d : Slot) (answer : Reply) (moved : Bool × State) (d' : Slot) :
    ((afterSector d answer moved).dev d').driver = (moved.2.dev d').driver := by
  rw [← State.outer_driver, afterSector_outer, State.outer_driver]

/-- A sector write answers `Ok` only when its buffer is one sector and the medium took it at the current LBA. -/
theorem dmaWriteSector_done {d : Slot} {buf : List Byte} {s : State} (hs : s.reply = .none)
    (h : (dmaWriteSector d buf s).reply = .done) :
    buf.length = (s.dev d).driver.sectorSize ∧
      ((dmaWriteSector d buf s).dev d).driver = ((s.dev d).storeSector buf).driver := by
  unfold dmaWriteSector at h ⊢
  split at h
  · simp [hs] at h
  · split_ifs at h with hlen
    · rw [afterSector_reply] at h
      rw [if_pos hlen, afterSector_driver]
      obtain ⟨-, -, hw⟩ | ⟨-, -, hw⟩ | ⟨-, hw⟩ := writeDmaSector_cases d buf s
      · exact ⟨hlen, by simp [hw]⟩
      · simp [hw] at h
      · simp [hw] at h
    · simp [hs] at h

/-- A sector read that answers bytes answers those of the sector at the current LBA. -/
theorem dmaReadSector_sector {d : Slot} {bytes : List Byte} {s : State} (hs : s.reply = .none)
    (h : (dmaReadSector d s).reply = .sector bytes) : bytes = (s.dev d).sectorBytes := by
  unfold dmaReadSector at h
  split at h
  · simp [hs] at h
  · rw [afterSector_reply] at h
    split_ifs at h
    exact (Reply.sector.inj h).symm

/-! ### A write and then a read -/

theorem exec_dmaWriteSector_done {d : Slot} {buf : List Byte} {s t : State} (h : exec (.dmaWriteSector d buf) s = .next t)
    (hdone : t.reply = .done) :
    buf.length = (s.dev d).driver.sectorSize ∧ (t.dev d).driver = ((s.dev d).storeSector buf).driver := by
  obtain ⟨-, rfl⟩ := atomically_next.mp h
  rw [settle_reply] at hdone
  simpa using dmaWriteSector_done (s.setReply_reply .none) hdone

theorem exec_dmaReadSector_sector {d : Slot} {bytes : List Byte} {s t : State} (h : exec (.dmaReadSector d) s = .next t)
    (hsector : t.reply = .sector bytes) : bytes = (s.dev d).sectorBytes := by
  obtain ⟨-, rfl⟩ := atomically_next.mp h
  rw [settle_reply] at hsector
  simpa using dmaReadSector_sector (s.setReply_reply .none) hsector

/-- Where a device has the driver of one that stored a sector, and its current LBA, its sector is the one stored
(20_memory R84). -/
theorem sectorBytes_of_storeSector {D D' : Device} {buf : List Byte} (hwf : Memory.wf D.driver.medium.img = true)
    (hlen : buf.length = D.driver.sectorSize) (hdrv : D'.driver = (D.storeSector buf).driver)
    (hlba : D'.dma.curLba = D.dma.curLba) : D'.sectorBytes = buf := by
  have hsize : D'.driver.sectorSize = buf.length := by rw [hdrv, hlen]; rfl
  have haddr : D'.sectorAddress = D.sectorAddress := by rw [Device.sectorAddress, hlba, hsize, hlen]; rfl
  calc D'.sectorBytes
      = Memory.readBytes (Memory.writeBytes D.driver.medium.img D.sectorAddress buf) D.sectorAddress buf.length := by
        rw [Device.sectorBytes, haddr, hsize, hdrv]; rfl
    _ = buf := Memory.readBytes_writeBytes hwf

/-- Settles O55, by what the two answers say and the sector that the medium then holds. -/
theorem aWrittenSectorReadsBack : Obligations.AWrittenSectorReadsBack := by
  intro s t u v d buf bytes hwf hwrite hdone hdrv hlba hread hsector
  obtain ⟨hlen, hstored⟩ := exec_dmaWriteSector_done hwrite hdone
  calc bytes = (u.dev d).sectorBytes := exec_dmaReadSector_sector hread hsector
    _ = buf := sectorBytes_of_storeSector hwf hlen (hdrv.trans hstored) hlba

end Sys2Proof.Machine
end

section
/-! PROOFS. Decoder and encoder are inverse: the tables by code, the fields of an access code, and what each format's decoder
answers (30_encoding R100 to R104, R120 to R124). -/

namespace Sys2Proof

/-! ### The tables by code -/

theorem lookup_eq_none_iff_notMem_keys {α β : Type} [BEq α] [LawfulBEq α] {l : List (α × β)} {k : α} :
    l.lookup k = none ↔ k ∉ l.map Prod.fst := by
  rw [List.lookup_eq_none_iff, List.mem_map]
  constructor
  · rintro h ⟨p, hp, rfl⟩
    simpa using h p hp
  · intro h p hp
    exact bne_iff_ne.mpr fun hk => h ⟨p, hp, hk.symm⟩

theorem portTable_keys : portTable.map Prod.fst = namedPortCodes := rfl

theorem commandTable_keys : commandTable.map Prod.fst = namedCommandCodes := rfl

theorem portTable_lookup_eq_none {code : Byte} : portTable.lookup code = none ↔ code ∉ namedPortCodes := by
  rw [lookup_eq_none_iff_notMem_keys, portTable_keys]

theorem commandTable_lookup_eq_none {v : Byte} : commandTable.lookup v = none ↔ v ∉ namedCommandCodes := by
  rw [lookup_eq_none_iff_notMem_keys, commandTable_keys]

/-! ### The fields of an access code -/

theorem PortCode.unpack_pack (p : PortCode) : PortCode.unpack p.pack = p := by
  obtain ⟨blk, dir, nCode, zero, off⟩ := p
  simp only [PortCode.unpack, PortCode.pack, PortCode.mk.injEq]
  refine ⟨?blk, ?dir, ?nCode, ?zero, BitVec.extractLsb'_append_eq_right⟩
  case zero =>
    rw [BitVec.extractLsb'_append_eq_of_le (by decide)]
    exact BitVec.extractLsb'_append_eq_right
  case nCode =>
    iterate 2 rw [BitVec.extractLsb'_append_eq_of_le (by decide)]
    exact BitVec.extractLsb'_append_eq_right
  case dir =>
    iterate 3 rw [BitVec.extractLsb'_append_eq_of_le (by decide)]
    exact BitVec.extractLsb'_append_eq_right
  case blk =>
    iterate 3 rw [BitVec.extractLsb'_append_eq_of_le (by decide)]
    exact BitVec.extractLsb'_append_eq_left

theorem PortCode.pack_unpack (a : Byte) : (PortCode.unpack a).pack = a := by
  simp only [PortCode.pack, PortCode.unpack]
  rw [BitVec.extractLsb'_append_extractLsb'_eq_extractLsb' (show 7 = 6 + 1 from rfl),
    BitVec.extractLsb'_append_extractLsb'_eq_extractLsb' (show 6 = 4 + 2 from rfl),
    BitVec.extractLsb'_append_extractLsb'_eq_extractLsb' (show 4 = 3 + 1 from rfl),
    BitVec.extractLsb'_append_extractLsb'_eq_extractLsb' (show 3 = 0 + 3 from rfl)]
  exact BitVec.extractLsb'_eq_self

/-- No named access has the reserved width code (30_encoding R100, R123). -/
theorem notMem_namedPortCodes_of_nCode {code : Byte} (h : (PortCode.unpack code).nCode = 3) : code ∉ namedPortCodes := by
  have hnamed : ∀ c ∈ namedPortCodes, (PortCode.unpack c).nCode ≠ 3 := by decide
  exact fun hc => hnamed code hc h

/-! ### The decoder, row by row -/

/-- A value fits the width it was widened from. -/
theorem fitValue_setWidth {w : Nat} (hw : w ≤ 32) (v : BitVec w) : fitValue w (v.setWidth 32) = .ok v := by
  have hv : (v.setWidth 32).toNat < 2 ^ w := by
    rw [BitVec.toNat_setWidth_of_le hw]
    exact v.isLt
  rw [fitValue, if_pos hv, BitVec.setWidth_setWidth_of_le v hw, BitVec.setWidth_eq]

/-- A named row of the PORT table decides. -/
theorem decodePort_of_row {code : Byte} {o : Operands} {row : PortRow} (h : portTable.lookup code = some row) :
    decodePort code o = row.build o.value := by
  rw [decodePort, h]

/-- A write of one byte gives the row's operation with that byte. -/
theorem decode_write_byte {code : Byte} {f : Byte → Instr} (h : portTable.lookup code = some (.byte f)) (v : Byte) :
    decode (.write code (v.setWidth 32)) = .ok (f v) :=
  calc decode (.write code (v.setWidth 32))
      = (fitValue 8 (v.setWidth 32)).map f := decodePort_of_row h
    _ = .ok (f v) := by rw [fitValue_setWidth (by decide)]; rfl

/-- A write of two bytes gives the row's operation with that word. -/
theorem decode_write_word {code : Byte} {f : BitVec 16 → Instr} (h : portTable.lookup code = some (.word f))
    (v : BitVec 16) : decode (.write code (v.setWidth 32)) = .ok (f v) :=
  calc decode (.write code (v.setWidth 32))
      = (fitValue 16 (v.setWidth 32)).map f := decodePort_of_row h
    _ = .ok (f v) := by rw [fitValue_setWidth (by decide)]; rfl

/-- A code with the reserved width code is an access of the width beside it, unless that width has a code of its own
(30_encoding R100). -/
theorem decodePort_of_reservedWidth {code : Byte} {o : Operands} (hcode : (PortCode.unpack code).nCode = 3) :
    decodePort code o =
      if o.width = 1 ∨ o.width = 2 ∨ o.width = 4 then .error .widthHasCode
      else .ok (.refusedWidth (PortCode.unpack code).blk (PortCode.unpack code).dir (PortCode.unpack code).zero
        (PortCode.unpack code).off o.width) := by
  rw [decodePort, portTable_lookup_eq_none.mpr (notMem_namedPortCodes_of_nCode hcode)]
  exact if_pos hcode

/-- Every other code without a row is a refused access (30_encoding R124). -/
theorem decodePort_of_unnamed {code : Byte} {o : Operands} (hcode : (PortCode.unpack code).nCode ≠ 3)
    (hnamed : code ∉ namedPortCodes) : decodePort code o = .ok (.refusedAccess (PortCode.unpack code)) := by
  rw [decodePort, portTable_lookup_eq_none.mpr hnamed]
  exact if_neg hcode

theorem decodeCommand_of_unnamed {v : Byte} (h : v ∉ namedCommandCodes) : decodeCommand v = .unsupportedOther v := by
  rw [decodeCommand, commandTable_lookup_eq_none.mpr h]

/-- Settles O1, by the row of each operation: a write by its value, a refused access by its fields, an unlisted command byte
by its absence from the table, an environment operation by its check, and every other one by its code alone. -/
theorem decodeUndoesEncode : Obligations.DecodeUndoesEncode := by
  intro i hi
  cases i with
  | wrDataB v | wrFeatures v | wrSectorCount v | wrSectorNumber v | wrCylLow v | wrCylHigh v | wrDeviceHead v
  | wrCommand v | wrDevCtl v => exact decode_write_byte rfl v
  | wrDataW v => exact decode_write_word rfl v
  | refusedWidth blk dir zero off n =>
    have hn : ¬(n = 1 ∨ n = 2 ∨ n = 4) := by simpa [Instr.wellFormed, and_assoc] using hi
    have hp := PortCode.unpack_pack { blk := blk, dir := dir, nCode := 3, zero := zero, off := off }
    refine ((decodePort_of_reservedWidth (congrArg PortCode.nCode hp)).trans (if_neg hn)).trans ?_
    rw [hp]
    rfl
  | refusedAccess p =>
    obtain ⟨hcode, hnamed⟩ : p.nCode ≠ 3 ∧ p.pack ∉ namedPortCodes := by simpa [Instr.wellFormed] using hi
    have hp := p.unpack_pack
    refine (decodePort_of_unnamed (by rwa [hp]) hnamed).trans ?_
    rw [hp]
  | unsupportedOther v =>
    have hv : v ∉ namedCommandCodes := by simpa [Instr.wellFormed] using hi
    exact congrArg Except.ok (decodeCommand_of_unnamed hv)
  | mediumChange d present capacity img => exact if_pos hi
  | attach d drv => exact if_pos hi
  | _ => rfl

/-! ### What the decoder answers -/

/-- The operations that a row can build. -/
def PortRow.Makes (row : PortRow) (i : Instr) : Prop :=
  match row with
  | .plain j => i = j
  | .byte f => ∃ v, i = f v
  | .word f => ∃ v, i = f v
  | .dword f => ∃ v, i = f v

theorem PortRow.makes_of_build {row : PortRow} {value : BitVec 32} {i : Instr} (h : row.build value = .ok i) :
    row.Makes i := by
  cases row with
  | plain j => exact (Except.ok.inj h).symm
  | byte f => exact fitValue_map_eq_ok h
  | word f => exact fitValue_map_eq_ok h
  | dword f => exact ⟨value, (Except.ok.inj h).symm⟩

/-- What a row of the PORT table makes is well formed and has the row's code. -/
theorem portTable_makes :
    ∀ p ∈ portTable, ∀ i, p.2.Makes i → i.wellFormed = true ∧ (encode i).code = p.1 := by
  simp [portTable, PortRow.Makes, Instr.wellFormed, encode, Request.plain, Request.write]

theorem commandTable_operations : ∀ p ∈ commandTable, p.2.wellFormed = true ∧ (encode p.2).code = p.1 := by decide

theorem decodePort_wellFormed_code {code : Byte} {o : Operands} {i : Instr} (h : decodePort code o = .ok i) :
    i.wellFormed = true ∧ (encode i).code = code := by
  cases hrow : portTable.lookup code with
  | some row =>
    rw [decodePort_of_row hrow] at h
    exact portTable_makes _ (mem_of_lookup hrow) i (PortRow.makes_of_build h)
  | none =>
    by_cases hcode : (PortCode.unpack code).nCode = 3
    · rw [decodePort_of_reservedWidth hcode] at h
      split_ifs at h with hw
      obtain rfl := Except.ok.inj h
      refine ⟨by simpa [Instr.wellFormed, and_assoc] using hw, ?_⟩
      calc PortCode.pack { PortCode.unpack code with nCode := 3 }
          = (PortCode.unpack code).pack := by rw [← hcode]
        _ = code := PortCode.pack_unpack code
    · have hnamed := portTable_lookup_eq_none.mp hrow
      obtain rfl := Except.ok.inj ((decodePort_of_unnamed hcode hnamed).symm.trans h)
      have hpack := PortCode.pack_unpack code
      exact ⟨by simpa [Instr.wellFormed, hpack, hnamed] using hcode, hpack⟩

theorem decodeCommand_wellFormed_code (v : Byte) :
    (decodeCommand v).wellFormed = true ∧ (encode (decodeCommand v)).code = v := by
  cases hrow : commandTable.lookup v with
  | some i =>
    rw [decodeCommand, hrow]
    exact commandTable_operations _ (mem_of_lookup hrow)
  | none =>
    have hnamed := commandTable_lookup_eq_none.mp hrow
    rw [decodeCommand_of_unnamed hnamed]
    exact ⟨by simpa [Instr.wellFormed] using hnamed, rfl⟩

theorem decodeDmaif_wellFormed_code {code : Byte} {o : Operands} {i : Instr} (h : decodeDmaif code o = .ok i) :
    i.wellFormed = true ∧ (encode i).code = code := by
  unfold decodeDmaif at h
  split_ifs at h <;> obtain rfl := Except.ok.inj h <;> exact ⟨rfl, Eq.symm ‹code = _›⟩

theorem decodeEnv_format_code {code : Byte} {o : Operands} {i : Instr} (h : decodeEnv code o = .ok i) :
    (encode i).format = .env ∧ (encode i).code = code := by
  unfold decodeEnv at h
  split_ifs at h <;> obtain rfl := Except.ok.inj h <;> exact ⟨rfl, Eq.symm ‹code = _›⟩

/-- Settles O2, by what the decoder of the request's format answers. -/
theorem decodingKeepsEveryCodeBit : Obligations.DecodingKeepsEveryCodeBit := by
  rintro ⟨format, code, o⟩ i h
  cases format with
  | port =>
    obtain ⟨hwf, hcode⟩ := decodePort_wellFormed_code h
    exact ⟨hwf, decodePort_format h, hcode⟩
  | cmd =>
    obtain rfl := Except.ok.inj h
    obtain ⟨hwf, hcode⟩ := decodeCommand_wellFormed_code code
    exact ⟨hwf, decodeCommand_format code, hcode⟩
  | dmaif =>
    obtain ⟨hwf, hcode⟩ := decodeDmaif_wellFormed_code h
    exact ⟨hwf, decodeDmaif_format h, hcode⟩
  | env => exact ⟨decodeEnv_wellFormed h, decodeEnv_format_code h⟩

/-- Settles O4: each word is the request of its operation, which the decoder gives back. -/
theorem sampleWordsDecode : Obligations.SampleWordsDecode :=
  ⟨decodeUndoesEncode (.wrDataW 0x1234) rfl, decodeUndoesEncode .rdStatus rfl, decodeUndoesEncode (.wrDevCtl 0x02) rfl,
    decodeUndoesEncode (.refusedWidth 0 0 0 0 3) rfl, decodeUndoesEncode .readDma rfl,
    decodeUndoesEncode (.dmaWriteSector .slave [1, 2]) rfl, decodeUndoesEncode (.mediumChange .master true 9 []) rfl⟩

end Sys2Proof
end

section
/-! PROOFS. An operation of format CMD is a Command write of its byte (30_encoding R102, R120 to R122; 42_command_engine
R250). -/

namespace Sys2Proof.Machine

/-- A byte without a handler of its own is an unsupported command (42_command_engine R262). -/
theorem dispatch_of_unnamed {v : Byte} (h : v ∉ namedCommandCodes) : dispatch v = unsupportedCommand v := by
  have hne : ∀ c ∈ namedCommandCodes, v ≠ c := fun c hc hv => h (hv ▸ hc)
  simp only [dispatch, hne 0xEC (by decide), hne 0xA1 (by decide), hne 0x91 (by decide), hne 0xEF (by decide),
    hne 0xF2 (by decide), hne 0xC8 (by decide), hne 0xCA (by decide), hne 0xA0 (by decide), if_false]

/-- A well-formed operation of format CMD does what a Command write of its byte does. -/
theorem exec_of_format_cmd {i : Instr} (hwf : i.wellFormed = true) (hi : (encode i).format = .cmd) (s : State) :
    exec i s = exec (.wrCommand (encode i).code) s := by
  cases i with
  | rdDataB | rdDataW | rdDataD | wrDataB | wrDataW | wrDataD | rdError | rdSectorCount | rdSectorNumber | rdCylLow
  | rdCylHigh | rdDeviceHead | rdStatus | wrFeatures | wrSectorCount | wrSectorNumber | wrCylLow | wrCylHigh
  | wrDeviceHead | wrCommand | rdAltStatus | wrDevCtl | refusedWidth | refusedAccess | dmaReadSector | dmaWriteSector
  | dmaAbort | dmaQuery | mediumChange | attach => exact Format.noConfusion hi
  | unsupportedOther v =>
    have hv : v ∉ namedCommandCodes := by simpa [Instr.wellFormed] using hwf
    calc exec (.unsupportedOther v) s
        = commandWrite v (unsupportedCommand v) s := rfl
      _ = commandWrite v (dispatch v) s := by rw [dispatch_of_unnamed hv]
      _ = exec (.wrCommand v) s := rfl
  | _ => rfl

/-- Settles O3: the byte's operation is a well-formed one of format CMD with that byte. -/
theorem everyCommandByteIsACommandWrite : Obligations.EveryCommandByteIsACommandWrite := by
  intro v o
  obtain ⟨hwf, hcode⟩ := decodeCommand_wellFormed_code v
  refine ⟨decodeCommand v, rfl, fun s => ?_⟩
  rw [exec_of_format_cmd hwf (decodeCommand_format v), hcode]

end Sys2Proof.Machine
end

section
/-! PROOFS. The operand fields of a command as numbers of the task file, and the transfer-mode values (30_encoding R110 to
R116). -/

namespace Sys2Proof.Machine

/-! ### The fields of the operand word -/

/-- A byte of the operand word whose every bit is that of a register is that register (30_encoding R102). -/
theorem commandWord_byte {r : Regs} {reg : Byte} {lo : Nat}
    (hbits : ∀ k < 8, r.commandWord.getLsbD (lo + k) = reg.getLsbD k) : r.commandWord.extractLsb' lo 8 = reg := by
  apply BitVec.eq_of_getLsbD_eq
  intro k hk
  rw [BitVec.getLsbD_extractLsb', decide_eq_true hk, Bool.true_and, hbits k hk]

theorem commandWord_sc (r : Regs) : r.commandWord.sc = r.sectorCount :=
  commandWord_byte fun k hk => by grind [commandWord_getLsbD]

theorem commandWord_sn (r : Regs) : r.commandWord.sn = r.sectorNumber :=
  commandWord_byte fun k hk => by grind [commandWord_getLsbD]

theorem commandWord_cl (r : Regs) : r.commandWord.cl = r.cylLow :=
  commandWord_byte fun k hk => by grind [commandWord_getLsbD]

theorem commandWord_ch (r : Regs) : r.commandWord.ch = r.cylHigh :=
  commandWord_byte fun k hk => by grind [commandWord_getLsbD]

theorem commandWord_devHead (r : Regs) : r.commandWord.extractLsb' 48 8 = r.devHead :=
  commandWord_byte fun k hk => by grind [commandWord_getLsbD]

/-- The head field is the low half of Device/Head (30_encoding R102). -/
theorem commandWord_hs_toNat (r : Regs) : r.commandWord.hs.toNat = r.devHead.toNat % 16 := by
  have hdev := congrArg BitVec.toNat (commandWord_devHead r)
  rw [BitVec.extractLsb'_toNat] at hdev
  rw [CommandWord.hs, BitVec.extractLsb'_toNat, ← hdev]
  omega

/-- The addressing mode is Device/Head bit 6 (30_encoding R113). -/
theorem commandWord_lbaMode (r : Regs) : r.commandWord.lbaMode = r.devHead.getLsbD 6 := by
  rw [CommandWord.lbaMode, commandWord_getLsbD]
  rfl

theorem commandWord_count (r : Regs) :
    r.commandWord.count = if r.sectorCount.toNat = 0 then 256 else r.sectorCount.toNat := by
  rw [CommandWord.count, commandWord_sc]
  exact if_congr (BitVec.toNat_eq (y := 0)) rfl rfl

/-- Two vectors side by side as a number. -/
theorem toNat_append_eq_mul_add {m n : Nat} (x : BitVec m) (y : BitVec n) :
    (x ++ y).toNat = x.toNat * 2 ^ n + y.toNat := by
  rw [BitVec.toNat_append, ← Nat.shiftLeft_add_eq_or_of_lt y.isLt, Nat.shiftLeft_eq]

theorem commandWord_cyl_toNat (r : Regs) :
    r.commandWord.cyl.toNat = r.cylHigh.toNat * 2 ^ 8 + r.cylLow.toNat :=
  calc r.commandWord.cyl.toNat
      = r.commandWord.ch.toNat * 2 ^ 8 + r.commandWord.cl.toNat := toNat_append_eq_mul_add _ _
    _ = r.cylHigh.toNat * 2 ^ 8 + r.cylLow.toNat := by rw [commandWord_ch, commandWord_cl]

theorem commandWord_lba28_toNat (r : Regs) :
    r.commandWord.lba28.toNat =
      r.devHead.toNat % 16 * 2 ^ 24 + r.cylHigh.toNat * 2 ^ 16 + r.cylLow.toNat * 2 ^ 8 + r.sectorNumber.toNat :=
  calc r.commandWord.lba28.toNat
      = ((r.commandWord.hs.toNat * 2 ^ 8 + r.commandWord.ch.toNat) * 2 ^ 8 + r.commandWord.cl.toNat) * 2 ^ 8
          + r.commandWord.sn.toNat := by
        unfold CommandWord.lba28
        iterate 3 rw [toNat_append_eq_mul_add]
    _ = _ := by
        rw [commandWord_hs_toNat, commandWord_ch, commandWord_cl, commandWord_sn]
        omega

/-- Settles O5, field by field. -/
theorem commandOperandFields : Obligations.CommandOperandFields := fun r =>
  ⟨commandWord_lba28_toNat r, commandWord_cyl_toNat r, commandWord_hs_toNat r, commandWord_sn r, commandWord_count r,
    congrArg BitVec.toNat (commandWord_sc r), congrArg (· + 1) (commandWord_hs_toNat r), commandWord_lbaMode r,
    commandWord_dev r⟩

/-! ### The transfer-mode value -/

/-- The kind and the mode number of a transfer-mode value decide apart (30_encoding R115). -/
theorem decodeMode_append (k : BitVec 5) (m : BitVec 3) :
    decodeMode (k ++ m) =
      if k = 0b00000 then (if m = 0 ∨ m = 1 then .pio 0 else .invalid)
      else if k = 0b00001 then .pio m
      else if k = 0b00010 then .dma .sw m
      else if k = 0b00100 then .dma .mw m
      else if k = 0b01000 then .dma .udma m
      else .invalid := by
  have hk : (k ++ m).extractLsb' 3 5 = k := BitVec.extractLsb'_append_eq_left
  have hm : (k ++ m).extractLsb' 0 3 = m := BitVec.extractLsb'_append_eq_right
  unfold decodeMode
  rw [hk, hm]

/-- Settles O6, kind by kind. -/
theorem transferModeValues : Obligations.TransferModeValues := by
  intro m
  refine ⟨?_, decodeMode_append _ m, decodeMode_append _ m, decodeMode_append _ m, decodeMode_append _ m,
    fun k h0 h1 h2 h4 h8 => ?_⟩
  · have hm : (m = 0 ∨ m = 1) ↔ m.toNat < 2 := by bv_omega
    rw [decodeMode_append, if_pos rfl]
    exact if_congr hm rfl rfl
  · rw [decodeMode_append, if_neg h0, if_neg h1, if_neg h2, if_neg h4, if_neg h8]

end Sys2Proof.Machine
end

section
/-! PROOFS. The environment operations (40_driver_capability R170, R172): where each is enabled, what it answers there, and that
an operation without a condition of its own completes in every live state (41_register_access R200). -/

namespace Sys2Proof.Machine

/-! ### Where an operation is enabled -/

theorem envAllowed_mediumChange {s : State} {d : Slot} {present : Bool} {capacity : Lba} {img : Memory} :
    envAllowed (.mediumChange d present capacity img) s = true ↔ (s.dev d).driver.kind = .dvd := by
  simp [envAllowed]

theorem not_envAllowed_mediumChange {s : State} {d : Slot} {present : Bool} {capacity : Lba} {img : Memory} :
    envAllowed (.mediumChange d present capacity img) s = false ↔ (s.dev d).driver.kind ≠ .dvd := by
  rw [← Bool.not_eq_true, envAllowed_mediumChange]

theorem envAllowed_attach {s : State} {d : Slot} {drv : Driver} :
    envAllowed (.attach d drv) s = true ↔ s.cur = none ∧ drv.id ≠ (s.dev d.other).driver.id := by
  simp [envAllowed]

theorem not_envAllowed_attach {s : State} {d : Slot} {drv : Driver} :
    envAllowed (.attach d drv) s = false ↔ s.cur ≠ none ∨ drv.id = (s.dev d.other).driver.id := by
  rw [← Bool.not_eq_true, envAllowed_attach, not_and_or, not_not]

/-- Only the two environment operations can be disabled in a live state, each by the failure of its own condition. -/
theorem not_envAllowed_cases {i : Instr} {s : State} (h : envAllowed i s = false) :
    (∃ d present capacity img, i = .mediumChange d present capacity img ∧ (s.dev d).driver.kind ≠ .dvd)
    ∨ ∃ d drv, i = .attach d drv ∧ (s.cur ≠ none ∨ drv.id = (s.dev d.other).driver.id) := by
  cases i with
  | mediumChange d present capacity img =>
    exact .inl ⟨d, present, capacity, img, rfl, not_envAllowed_mediumChange.mp h⟩
  | attach d drv => exact .inr ⟨d, drv, rfl, not_envAllowed_attach.mp h⟩
  | _ => exact Bool.noConfusion h

/-! ### What an operation answers in a live state -/

/-- An enabled operation answers a next state. -/
theorem exec_of_envAllowed {i : Instr} {s : State} (hl : s.live) (h : envAllowed i s = true) : ∃ t, exec i s = .next t := by
  obtain ⟨f, -, heq⟩ := exec_effect i
  exact ⟨_, (heq s).trans (whenAllowed_next.mpr ⟨h, hl, rfl⟩)⟩

/-- A disabled operation is refused under the model's own name (log 13). -/
theorem exec_of_not_envAllowed {i : Instr} {s : State} (hl : s.live) (h : envAllowed i s = false) :
    exec i s = .refused .operationNotEnabled := by
  obtain ⟨f, -, heq⟩ := exec_effect i
  rw [heq, whenAllowed, h, if_neg Bool.false_ne_true, whenEnabled_live hl]

/-- Settles O9: the operation's own condition holds, or it is an environment operation whose condition fails. -/
theorem liveStatesCompleteEveryOperation : Obligations.LiveStatesCompleteEveryOperation := by
  intro i s hl
  cases hall : envAllowed i s with
  | true => exact .inl (exec_of_envAllowed hl hall)
  | false =>
    have hrefused := exec_of_not_envAllowed hl hall
    obtain ⟨d, present, capacity, img, hi, hk⟩ | ⟨d, drv, hi, hc⟩ := not_envAllowed_cases hall
    · exact .inr (.inl ⟨d, present, capacity, img, hi, hk, hrefused⟩)
    · exact .inr (.inr ⟨d, drv, hi, hc, hrefused⟩)

/-! ### What an enabled environment operation does -/

/-- Without an edge of the interrupt line there is nothing to settle (60_exceptions R515). -/
theorem settle_of_irq_eq {after before : State} (h : before.irq = after.irq) : after.settle before = after := by
  rw [settle_eq, if_pos h]

theorem State.setReply_setDev (s : State) (r : Reply) (d : Slot) (v : Device) :
    (s.setReply r).setDev d v = (s.setDev d v).setReply r := by
  cases d <;> rfl

theorem State.setDev_irq (s : State) (d : Slot) (v : Device) : (s.setDev d v).irq = s.irq := by
  rw [State.irq, State.setDev_intPending, State.setDev_regs, State.irq]

/-- An effect on one device alone makes no edge and returns nothing. -/
theorem whenAllowed_setDev {allowed : Bool} {s : State} (hl : s.live) (h : allowed = true) (d : Slot) (g : Device → Device) :
    whenAllowed allowed (fun s => s.setDev d (g (s.dev d))) s = .next ((s.setDev d (g (s.dev d))).setReply .none) := by
  refine whenAllowed_next.mpr ⟨h, hl, ?_⟩
  rw [State.setReply_dev, settle_of_irq_eq, State.setReply_setDev]
  exact (State.setDev_irq (s.setReply .none) d _).symm

/-- Settles O56: a change of the medium is an effect on its device alone. -/
theorem mediumChangeResult : Obligations.MediumChangeResult := by
  intro s d present capacity img hl
  refine ⟨fun hk => ?_, fun hk => exec_of_not_envAllowed hl (not_envAllowed_mediumChange.mpr hk)⟩
  have hall : envAllowed (.mediumChange d present capacity img) s = true := envAllowed_mediumChange.mpr hk
  exact whenAllowed_setDev hl hall d (·.changeMedium (newMedium present capacity img))

/-- Settles O57: attaching a driver is an effect on its device alone. -/
theorem attachResult : Obligations.AttachResult := by
  intro s d drv hl
  refine ⟨fun hc hid => ?_, fun h => exec_of_not_envAllowed hl (not_envAllowed_attach.mpr h)⟩
  have hall : envAllowed (.attach d drv) s = true := envAllowed_attach.mpr ⟨hc, hid⟩
  exact whenAllowed_setDev hl hall d (·.attach drv)

end Sys2Proof.Machine
end

section
/-! PROOFS. The 8-bit registers at the port: what a read returns and acknowledges, and what a write stores (41_register_access
R213, R214, R216 to R218; 60_exceptions R512). -/

namespace Sys2Proof.Machine

/-! ### One atomic step, by its edge -/

/-- In a live state an operation that leaves the interrupt line as it was is its effect alone. -/
theorem atomically_of_irq_eq {f : State → State} {s : State} (hl : s.live) (h : (f (s.setReply .none)).irq = s.irq) :
    atomically f s = .next (f (s.setReply .none)) := by
  rw [atomically_live hl, settle_of_irq_eq h.symm]

/-- In a live state an operation is its effect and then the edge of the line. -/
theorem atomically_eq_withTrace {f : State → State} {s : State} (hl : s.live) :
    atomically f s = .next ((f (s.setReply .none)).withTrace
      ((f (s.setReply .none)).trace ++ edge s.irq (f (s.setReply .none)).irq)) := by
  rw [atomically_live hl, settle_eq_withTrace]

/-- An operation that faults records the reason and changes nothing else (60_exceptions R530). -/
theorem atomically_of_fault {f : State → State} {s : State} {r : FaultReason} (hl : s.live)
    (h : f (s.setReply .none) = (s.setReply .none).raiseFault r) :
    atomically f s = .next { s with fault := some r, reply := .none } := by
  rw [atomically_of_irq_eq hl (by rw [h]; rfl), h]
  rfl

/-! ### Reads -/

/-- A register read returns the register and changes nothing else (41_register_access R213, R218). -/
theorem atomically_rdReg {s : State} (hl : s.live) (f : Regs → Byte) :
    atomically (rdReg f) s = .next { s with reply := .value .one ((f s.regs).setWidth 32) } :=
  atomically_of_irq_eq hl rfl

/-- A Status read returns Status and clears the pending interrupt, so the line is low after it (41_register_access R214). -/
theorem exec_rdStatus {s : State} (hl : s.live) :
    exec .rdStatus s = .next
      { s with
        reply := .value .one (s.regs.status.setWidth 32), intPending := false, trace := s.trace ++ edge s.irq false } :=
  atomically_eq_withTrace hl

/-- While soft reset is asserted Status is `ST_BUSY` (70_reset_and_hazards R604). -/
theorem Inv.status_of_reset {s : State} (h : Inv s) (hs : s.regs.devCtl.getLsbD 2 = true) : s.regs.status = 0x80 :=
  (h.resetHeld hs).2

/-- Settles O27: each code names the read of its register. -/
theorem taskFileReads : Obligations.TaskFileReads := by
  intro s o hl
  simp only [List.forall_mem_cons, List.not_mem_nil, false_imp_iff, implies_true, and_true]
  exact ⟨⟨rfl, atomically_rdReg hl _⟩, ⟨rfl, atomically_rdReg hl _⟩, ⟨rfl, atomically_rdReg hl _⟩,
    ⟨rfl, atomically_rdReg hl _⟩, ⟨rfl, atomically_rdReg hl _⟩, ⟨rfl, atomically_rdReg hl _⟩⟩

/-- Settles O28, by the read's next state and the value of Status in soft reset. -/
theorem statusRead : Obligations.StatusRead := by
  intro s o hl
  refine ⟨rfl, exec_rdStatus hl, fun hinv hs => ⟨_, exec_rdStatus hl, ?_⟩⟩
  rw [hinv.status_of_reset hs]
  rfl

/-- Settles O29: the register is read and nothing else happens. -/
theorem alternateStatusRead : Obligations.AlternateStatusRead :=
  fun _ _ hl => ⟨rfl, atomically_rdReg hl _⟩

/-! ### Writes -/

/-- A task-file write is one atomic effect. -/
theorem exec_taskReg_write (reg : TaskReg) (v : Byte) (s : State) :
    exec (reg.write v) s = atomically (wrTask reg v) s := by
  cases reg <;> rfl

theorem exec_taskReg_write_of_reset {s : State} (hl : s.live) (hs : s.srst = true) (reg : TaskReg) (v : Byte) :
    exec (reg.write v) s = .next { s with fault := some .hostWriteDuringReset, reply := .none } :=
  (exec_taskReg_write reg v s).trans (atomically_of_fault hl (if_pos hs))

theorem exec_taskReg_write_of_inFlight {s : State} (hl : s.live) (hs : s.srst = false) (hc : s.cur.isSome = true)
    (reg : TaskReg) (v : Byte) :
    exec (reg.write v) s = .next { s with fault := some .taskFileWriteInDataPhase, reply := .none } :=
  (exec_taskReg_write reg v s).trans
    (atomically_of_fault hl ((if_neg (Bool.eq_false_iff.mp hs)).trans (if_pos hc)))

/-- With no command in flight and outside soft reset the byte goes into its register alone. -/
theorem exec_taskReg_write_of_idle {s : State} (h : s.idle) (reg : TaskReg) (v : Byte) :
    exec (reg.write v) s = .next { s with regs := s.regs.writeTask reg v, reply := .none } := by
  obtain ⟨hl, hs, hc⟩ := h
  have heff : wrTask reg v (s.setReply .none) = (s.setReply .none).setRegs (s.regs.writeTask reg v) :=
    (if_neg (Bool.eq_false_iff.mp hs)).trans (if_neg (by simp [hc]))
  have hirq : (wrTask reg v (s.setReply .none)).irq = s.irq := by
    rw [heff]
    cases reg <;> rfl
  rw [exec_taskReg_write, atomically_of_irq_eq hl hirq, heff]
  rfl

/-- A task-file write, case by case in the order of the rule (41_register_access R216). -/
theorem exec_taskReg_write_eq_ite {s : State} (hl : s.live) (reg : TaskReg) (v : Byte) :
    exec (reg.write v) s = .next
      (if s.regs.devCtl.getLsbD 2 then { s with fault := some .hostWriteDuringReset, reply := .none }
       else if s.cur.isSome then { s with fault := some .taskFileWriteInDataPhase, reply := .none }
       else { s with regs := s.regs.writeTask reg v, reply := .none }) := by
  split_ifs with hs hc
  · exact exec_taskReg_write_of_reset hl hs reg v
  · exact exec_taskReg_write_of_inFlight hl (Bool.eq_false_iff.mpr hs) hc reg v
  · exact exec_taskReg_write_of_idle ⟨hl, Bool.eq_false_iff.mpr hs, by simpa using hc⟩ reg v

/-- A write code with a row of one byte decodes to the row's operation, whatever operands stand beside the value. -/
theorem decode_byte_row {code : Byte} {f : Byte → Instr} (h : portTable.lookup code = some (.byte f)) (o : Operands)
    (v : Byte) :
    decode { format := .port, code := code, operands := { o with value := v.setWidth 32 } } = .ok (f v) :=
  calc decodePort code { o with value := v.setWidth 32 }
      = (fitValue 8 (v.setWidth 32)).map f := decodePort_of_row h
    _ = .ok (f v) := by rw [fitValue_setWidth (by decide)]; rfl

/-- Settles O30: each code names the write of its register. -/
theorem taskFileWrites : Obligations.TaskFileWrites := by
  intro s o v hl
  have hwrite := fun reg => exec_taskReg_write_eq_ite hl reg v
  simp only [List.forall_mem_cons, List.not_mem_nil, false_imp_iff, implies_true, and_true]
  exact ⟨⟨decode_byte_row rfl o v, hwrite .features⟩, ⟨decode_byte_row rfl o v, hwrite .sectorCount⟩,
    ⟨decode_byte_row rfl o v, hwrite .sectorNumber⟩, ⟨decode_byte_row rfl o v, hwrite .cylLow⟩,
    ⟨decode_byte_row rfl o v, hwrite .cylHigh⟩, ⟨decode_byte_row rfl o v, hwrite .devHead⟩⟩

/-- Settles O38: without an edge of SRST the byte is stored, and nIEN decides the line from then on. -/
theorem deviceControlWriteWithoutReset : Obligations.DeviceControlWriteWithoutReset := by
  intro s v hl hlevel
  have hold : Machine.srst s.regs.devCtl = Machine.srst v := hlevel
  have heff : wrDevCtl v (s.setReply .none) = (s.setReply .none).setRegs { s.regs with devCtl := v } :=
    wrDevCtl_of_level (by simp [hold]) (by simp [hold])
  calc exec (.wrDevCtl v) s = atomically (wrDevCtl v) s := rfl
    _ = _ := by
      rw [atomically_eq_withTrace hl, heff]
      rfl

end Sys2Proof.Machine
end

section
/-! PROOFS. The Command write: its two faults, and what a command that starts leaves alone (41_register_access R215;
42_command_engine R250, R251, R262; 43_ata_commands R340). -/

namespace Sys2Proof.Machine

/-! ### The two faults -/

theorem commandWrite_of_reset {v : Byte} {run : State → State} {s : State} (hl : s.live) (hs : s.srst = true) :
    commandWrite v run s = .next { s with fault := some .hostWriteDuringReset, reply := .none } :=
  atomically_of_fault hl (if_pos hs)

theorem commandWrite_of_inFlight {v : Byte} {run : State → State} {s : State} (hl : s.live) (hs : s.srst = false)
    (hc : s.cur.isSome = true) :
    commandWrite v run s = .next { s with fault := some .commandWhileInFlight, reply := .none } :=
  atomically_of_fault hl ((if_neg (Bool.eq_false_iff.mp hs)).trans (if_pos hc))

/-- The operation writes the Command register: as that register access, or as an operation of format CMD. -/
theorem exists_commandWrite {i : Instr} (hi : (encode i).format = .cmd ∨ ∃ v, i = .wrCommand v) :
    ∃ v run, ∀ s, exec i s = commandWrite v run s := by
  obtain hi | ⟨v, rfl⟩ := hi
  · cases i with
    | rdDataB | rdDataW | rdDataD | wrDataB | wrDataW | wrDataD | rdError | rdSectorCount | rdSectorNumber | rdCylLow
    | rdCylHigh | rdDeviceHead | rdStatus | wrFeatures | wrSectorCount | wrSectorNumber | wrCylLow | wrCylHigh
    | wrDeviceHead | wrCommand | rdAltStatus | wrDevCtl | refusedWidth | refusedAccess | dmaReadSector | dmaWriteSector
    | dmaAbort | dmaQuery | mediumChange | attach => exact Format.noConfusion hi
    | _ => exact ⟨_, _, fun _ => rfl⟩
  · exact ⟨v, dispatch v, fun _ => rfl⟩

/-- Settles O31: every such operation is a Command write. -/
theorem commandWriteFaults : Obligations.CommandWriteFaults := by
  intro i s hl hi
  obtain ⟨v, run, heq⟩ := exists_commandWrite hi
  refine ⟨fun hs => (heq s).trans (commandWrite_of_reset hl hs), fun hs hc => ?_⟩
  exact (heq s).trans (commandWrite_of_inFlight hl hs (Option.isSome_iff_ne_none.mpr hc))

/-! ### What a command that starts leaves alone -/

/-- From `s` to `t` neither a fault nor a refusal was recorded, and only device `d` may have changed. -/
structure ActsOn (d : Slot) (s t : State) : Prop where
  fault : t.fault = s.fault
  refused : t.refused = s.refused
  other : t.dev d.other = s.dev d.other

theorem ActsOn.trans {d : Slot} {s t u : State} (h : ActsOn d s t) (h' : ActsOn d t u) : ActsOn d s u :=
  ⟨h'.fault.trans h.fault, h'.refused.trans h.refused, h'.other.trans h.other⟩

theorem actsOn_setDev (d : Slot) (s : State) (D : Device) : ActsOn d s (s.setDev d D) := by
  cases d <;> exact ⟨rfl, rfl, rfl⟩

theorem actsOn_emit (d : Slot) (s : State) (e : Event) : ActsOn d s (s.emit e) := ⟨rfl, rfl, by simp⟩

theorem actsOn_complete (d : Slot) (c : Command) (ok : Bool) (s : State) : ActsOn d s (complete c ok s) :=
  ⟨rfl, rfl, by simp⟩

theorem actsOn_enterDataPhase (d : Slot) (c : Command) (b : Bool) (s : State) : ActsOn d s (enterDataPhase c b s) := by
  cases b <;> exact ⟨rfl, rfl, by simp⟩

theorem actsOn_identifyWith (c : Command) (record : Option Block) (s : State) : ActsOn c.d s (identifyWith c record s) := by
  cases record with
  | none => exact actsOn_complete c.d c false s
  | some b => exact (actsOn_setDev c.d s _).trans (actsOn_enterDataPhase c.d c true _)

theorem actsOn_identifyDevice (c : Command) (s : State) : ActsOn c.d s (identifyDevice c s) := actsOn_identifyWith c _ s

theorem actsOn_identifyPacketDevice (c : Command) (s : State) : ActsOn c.d s (identifyPacketDevice c s) :=
  actsOn_identifyWith c _ s

theorem actsOn_initializeDeviceParameters (c : Command) (s : State) : ActsOn c.d s (initializeDeviceParameters c s) := by
  rw [initializeDeviceParameters, nonDataExecute]
  obtain h | ⟨-, -, h⟩ := initializeStep_cases c s
  · rw [h]
    exact actsOn_complete c.d c false s
  · rw [h]
    exact (actsOn_setDev c.d s _).trans (actsOn_complete c.d c true _)

theorem actsOn_setFeatures (c : Command) (s : State) : ActsOn c.d s (setFeatures c s) := by
  rw [setFeatures, nonDataExecute]
  obtain ⟨m, h⟩ | ⟨-, -, ⟨m, -, -, h⟩ | ⟨k, m, -, -, h⟩⟩ := setFeaturesStep_cases c s
  · rw [h]
    exact (actsOn_emit c.d s _).trans (actsOn_complete c.d c false _)
  · rw [h]
    exact (actsOn_setDev c.d s _).trans (actsOn_complete c.d c true _)
  · rw [h]
    exact (actsOn_setDev c.d s _).trans (actsOn_complete c.d c true _)

theorem actsOn_securityUnlock (c : Command) (s : State) : ActsOn c.d s (securityUnlock c s) :=
  (actsOn_setDev c.d s _).trans (actsOn_enterDataPhase c.d c false _)

theorem actsOn_dmaCommand (isWrite : Bool) (c : Command) (s : State) : ActsOn c.d s (dmaCommand isWrite c s) := by
  unfold dmaCommand
  split
  · exact actsOn_complete c.d c false s
  · exact (actsOn_setDev c.d s _).trans (actsOn_enterDataPhase c.d c false _)

/-- The device of a new command is the one that Device/Head selects (42_command_engine R250). -/
theorem newCommand_d (v : Byte) (proto : Proto) (s : State) : (newCommand v proto s).d = s.selected :=
  commandWord_dev s.regs

theorem actsOn_startCommand {v : Byte} {proto : Proto} {execute : Command → State → State}
    (h : ∀ c s, ActsOn c.d s (execute c s)) (s : State) : ActsOn s.selected s (startCommand v proto execute s) := by
  rw [← newCommand_d v proto s]
  exact (actsOn_emit _ s _).trans (h _ _)

/-- An unsupported command that is not refused fails as a non-data command (42_command_engine R262). -/
theorem actsOn_unsupportedCommand {v : Byte} {s : State} (h : s.unsupportedAborts = true) :
    ActsOn s.selected s (unsupportedCommand v s) := by
  rw [unsupportedCommand, if_pos h]
  exact ((actsOn_emit _ s _).trans (actsOn_emit _ _ _)).trans (actsOn_complete _ _ _ _)

theorem unsupportedCommand_of_refused {v : Byte} {s : State} (h : s.unsupportedAborts = false) :
    unsupportedCommand v s = s.refuse (.unsupportedCommand v) :=
  if_neg (Bool.eq_false_iff.mp h)

/-- The bytes of the admitted commands (30_encoding R120). -/
def admittedCodes : List Byte := [0xEC, 0xA1, 0x91, 0xEF, 0xF2, 0xC8, 0xCA]

/-- A Command write runs an admitted command on the selected device, refuses PACKET, or finds the byte unsupported
(42_command_engine R250). -/
theorem dispatch_cases (v : Byte) :
    (v ∈ admittedCodes ∧ v ≠ 0xA0 ∧ ∀ s, ActsOn s.selected s (dispatch v s)) ∨
      (v = 0xA0 ∧ dispatch v = packet) ∨
      (v ∉ admittedCodes ∧ v ≠ 0xA0 ∧ dispatch v = unsupportedCommand v) := by
  by_cases hadm : v ∈ admittedCodes
  · have hne : v ≠ 0xA0 := fun h => absurd (h ▸ hadm) (by decide)
    refine .inl ⟨hadm, hne, ?_⟩
    simp only [admittedCodes, List.mem_cons, List.not_mem_nil, or_false] at hadm
    obtain rfl | rfl | rfl | rfl | rfl | rfl | rfl := hadm
    · exact actsOn_startCommand actsOn_identifyDevice
    · exact actsOn_startCommand actsOn_identifyPacketDevice
    · exact actsOn_startCommand actsOn_initializeDeviceParameters
    · exact actsOn_startCommand actsOn_setFeatures
    · exact actsOn_startCommand actsOn_securityUnlock
    · exact actsOn_startCommand (actsOn_dmaCommand false)
    · exact actsOn_startCommand (actsOn_dmaCommand true)
  by_cases hpacket : v = 0xA0
  · subst hpacket
    exact .inr (.inl ⟨rfl, rfl⟩)
  · refine .inr (.inr ⟨hadm, hpacket, ?_⟩)
    simp only [admittedCodes, List.mem_cons, List.not_mem_nil, or_false, not_or] at hadm
    obtain ⟨h1, h2, h3, h4, h5, h6, h7⟩ := hadm
    simp only [dispatch, h1, h2, h3, h4, h5, h6, h7, hpacket, if_false]

/-- The refusal that a Command write of the byte records (42_command_engine R262, 43_ata_commands R340). -/
def refusalOf (v : Byte) (unsupportedAborts : Bool) : Option RefuseReason :=
  if v = 0xA0 then some .packetCommand
  else if v ∉ admittedCodes ∧ unsupportedAborts = false then some (.unsupportedCommand v)
  else none

theorem refusalOf_eq_none {v : Byte} {aborts : Bool} (hne : v ≠ 0xA0) (h : v ∈ admittedCodes ∨ aborts = true) :
    refusalOf v aborts = none :=
  (if_neg hne).trans (if_neg fun ⟨hadm, hab⟩ => h.elim hadm (Bool.eq_false_iff.mp hab))

theorem refusalOf_unsupported {v : Byte} (hne : v ≠ 0xA0) (hadm : v ∉ admittedCodes) :
    refusalOf v false = some (.unsupportedCommand v) :=
  (if_neg hne).trans (if_pos ⟨hadm, rfl⟩)

/-- A Command write acts on the selected device without a refusal, or it is refused with all else as it was. -/
theorem dispatch_actsOn_or_refused (v : Byte) (s : State) :
    (refusalOf v s.unsupportedAborts = none ∧ ActsOn s.selected s (dispatch v s)) ∨
      ∃ r, refusalOf v s.unsupportedAborts = some r ∧ dispatch v s = s.refuse r := by
  obtain ⟨hadm, hne, hact⟩ | ⟨rfl, hrun⟩ | ⟨hadm, hne, hrun⟩ := dispatch_cases v
  · exact .inl ⟨refusalOf_eq_none hne (.inl hadm), hact s⟩
  · exact .inr ⟨_, rfl, congrFun hrun s⟩
  · rw [hrun]
    cases hab : s.unsupportedAborts with
    | true => exact .inl ⟨refusalOf_eq_none hne (.inr rfl), actsOn_unsupportedCommand hab⟩
    | false => exact .inr ⟨_, refusalOf_unsupported hne hadm, unsupportedCommand_of_refused hab⟩

/-- Register blocks with the same host registers differ in Error and Status alone. -/
theorem Regs.eq_of_hostRegs_eq {r r' : Regs} (h : r.hostRegs = r'.hostRegs) :
    r = { r' with status := r.status, error := r.error } :=
  calc r = { r.hostRegs with status := r.status, error := r.error } := rfl
    _ = { r' with status := r.status, error := r.error } := by rw [h]; rfl

/-- A Command write of any byte, from its latched state on, leaves the host's registers and the records. -/
theorem dispatch_outer (v : Byte) (s : State) : (dispatch v s).outer = s.outer := (CommandRun.dispatch v).keepsOuter s

/-- The state in which a Command write runs its command: the byte latched and the interrupt acknowledged
(41_register_access R215). -/
def State.latched (s : State) (v : Byte) : State :=
  ((s.setReply .none).setRegs { s.regs with command := v }).setInt false

@[simp] theorem State.latched_dev (s : State) (v : Byte) (d : Slot) : (s.latched v).dev d = s.dev d := by
  simp [State.latched]

/-- From an idle state a Command write runs its command on the latched state. -/
theorem exec_wrCommand_of_idle {s : State} (h : s.idle) (v : Byte) :
    exec (.wrCommand v) s = .next ((dispatch v (s.latched v)).settle s) :=
  commandWrite_idle h

/-- The operation that a command byte decodes to does what a Command write of the byte does. -/
theorem exec_decodeCommand (v : Byte) (s : State) : exec (decodeCommand v) s = exec (.wrCommand v) s := by
  obtain ⟨i, hi, hexec⟩ := everyCommandByteIsACommandWrite v .zero
  obtain rfl : decodeCommand v = i := Except.ok.inj hi
  exact hexec s

/-- Settles O32: the command acts on the selected device, or it is refused in the latched state. -/
theorem commandWriteCompletes : Obligations.CommandWriteCompletes := by
  intro s v hidle
  have hexec := exec_wrCommand_of_idle hidle v
  obtain ⟨⟨hfault, hrefused⟩, -, -⟩ := hidle
  have houter : (dispatch v (s.latched v)).outer = (s.latched v).outer := dispatch_outer v _
  have hregs := Regs.eq_of_hostRegs_eq (congrArg Outer.regs houter)
  have hdriver (d : Slot) : ((dispatch v (s.latched v)).dev d).driver = (s.dev d).driver := by
    rw [← State.outer_driver, houter, State.outer_driver, State.latched_dev]
  refine ⟨_, hexec, (exec_decodeCommand v s).trans hexec, ?_⟩
  simp only [settle_regs, settle_fault, settle_refused, settle_dev]
  refine ⟨hregs, ?_⟩
  obtain ⟨hnone, hact⟩ | ⟨r, hsome, hrun⟩ := dispatch_actsOn_or_refused v (s.latched v)
  · have hok : (dispatch v (s.latched v)).refused = none := hact.refused.trans hrefused
    exact ⟨hact.fault.trans hfault, hok.trans hnone.symm, .inl hok, hdriver, hact.other.trans (s.latched_dev v _)⟩
  · rw [hrun] at hdriver ⊢
    exact ⟨hfault, hsome.symm, .inr ⟨rfl, rfl⟩, hdriver, by simp⟩

end Sys2Proof.Machine
end

section
/-! PROOFS. The Data register: the bytes of a value, and what an access does in its data phase and outside it (41_register_access
R210 to R212; 42_command_engine R256 to R258; 43_ata_commands R325; 20_memory R71). -/

namespace Sys2Proof.Machine

/-! ### The bytes of a value -/

/-- The bits of a value are those of its bytes, the first byte lowest (20_memory R71). -/
theorem leValue_cons_getLsbD (b : Byte) (bs : List Byte) {k : Nat} (hk : k < 32) :
    (leValue (b :: bs)).getLsbD k = if k < 8 then b.getLsbD k else (leValue bs).getLsbD (k - 8) := by
  change ((leValue bs <<< 8) ||| b.setWidth 32).getLsbD k = _
  rw [BitVec.getLsbD_or, BitVec.getLsbD_shiftLeft, BitVec.getLsbD_setWidth]
  split_ifs with h8
  · simp [hk, h8]
  · simp [hk, h8, BitVec.getLsbD_of_ge b k (by omega)]

/-- Byte `j` of a value is byte `j` of the list it was put together from (20_memory R71). -/
theorem byteOf_leValue {bs : List Byte} {j : Nat} (hj : j < bs.length) (h4 : j < 4) : byteOf (leValue bs) j = bs[j] := by
  apply BitVec.eq_of_getLsbD_eq
  intro k hk
  rw [byteOf, BitVec.getLsbD_extractLsb', decide_eq_true hk, Bool.true_and]
  induction bs generalizing j with
  | nil => exact absurd hj (Nat.not_lt_zero j)
  | cons b bs ih =>
    rw [leValue_cons_getLsbD b bs (by omega)]
    cases j with
    | zero => simp [hk]
    | succ j =>
      have hlt : j < bs.length := by simpa using hj
      have hshift : 8 * (j + 1) + k - 8 = 8 * j + k := by omega
      rw [if_neg (by omega), hshift]
      exact ih hlt (by omega)

/-- A value of `n` bytes is below `2 ^ (8 * n)`. -/
theorem leValue_lt (bs : List Byte) : (leValue bs).toNat < 2 ^ (8 * bs.length) := by
  induction bs with
  | nil => decide
  | cons b bs ih =>
    change ((leValue bs <<< 8) ||| b.setWidth 32).toNat < 2 ^ (8 * bs.length + 8)
    rw [BitVec.toNat_or]
    refine Nat.or_lt_two_pow ?_ ?_
    · rw [BitVec.toNat_shiftLeft, Nat.shiftLeft_eq, pow_add]
      exact (Nat.mod_le _ _).trans_lt (Nat.mul_lt_mul_of_pos_right ih (by decide))
    · rw [BitVec.toNat_setWidth]
      exact (Nat.mod_le _ _).trans_lt (b.isLt.trans_le (Nat.pow_le_pow_right (by decide) (by omega)))

@[simp] theorem State.length_drawBytes (s : State) (n : Nat) : (s.drawBytes n).length = n := by
  simp [State.drawBytes]

@[simp] theorem Device.length_readBuffer (D : Device) (n : Nat) : (D.readBuffer n).length = D.moveCount n :=
  Memory.length_readBytes _ _ _

@[simp] theorem length_bytesOf (v : BitVec 32) (k : Nat) : (bytesOf v k).length = k := by
  simp [bytesOf]

theorem getElem_bytesOf {v : BitVec 32} {k i : Nat} (h : i < (bytesOf v k).length) : (bytesOf v k)[i] = byteOf v i := by
  simp [bytesOf]

theorem Device.moveCount_le (D : Device) (n : Nat) : D.moveCount n ≤ n := min_le_left _ _

theorem Width.bytes_le (n : Width) : n.bytes ≤ 4 := by
  cases n <;> decide

/-! ### An access outside its phase -/

theorem atomically_rdData_of_closed {s : State} (hl : s.live) (h : ∀ c, s.cur = some c → c.proto ≠ .pioIn) (n : Width) :
    atomically (rdData n) s = .next
      { s with
        reply := .value n (leValue (s.drawBytes n.bytes)), draws := s.draws + n.bytes
        trace := s.trace ++ [.diag .readDataOutsidePhase] } := by
  have hphase : (s.setReply .none).openPhase .pioIn = none := openPhase_eq_none.mpr h
  have heff : rdData n (s.setReply .none) = (((s.setReply .none).diag .readDataOutsidePhase).setReply
      (.value n (leValue (s.drawBytes n.bytes)))).skipDraws n.bytes := by
    rw [rdData, hphase]
    rfl
  rw [atomically_of_irq_eq hl (by rw [heff]; rfl), heff]
  rfl

theorem atomically_wrData_of_closed {s : State} (hl : s.live) (h : ∀ c, s.cur = some c → c.proto ≠ .pioOut) (n : Width)
    (v : BitVec 32) :
    atomically (wrData n v) s = .next { s with reply := .none, trace := s.trace ++ [.diag .writeDataOutsidePhase] } := by
  have hphase : (s.setReply .none).openPhase .pioOut = none := openPhase_eq_none.mpr h
  have heff : wrData n v (s.setReply .none) = (s.setReply .none).diag .writeDataOutsidePhase := by
    rw [wrData, hphase]
  rw [atomically_of_irq_eq hl (by rw [heff]; rfl), heff]
  rfl

/-- Settles O34: the draws make the value of a read, and nothing makes one of a write. -/
theorem dataPortOutsideItsPhase : Obligations.DataPortOutsideItsPhase := by
  intro s hl
  have hvalue (n : Width) : (leValue (s.drawBytes n.bytes)).toNat < 2 ^ (8 * n.bytes) := by
    simpa using leValue_lt (s.drawBytes n.bytes)
  constructor
  · intro hphase
    simp only [List.forall_mem_cons, List.not_mem_nil, false_imp_iff, implies_true, and_true]
    have hread := atomically_rdData_of_closed hl hphase
    exact ⟨⟨_, _, hvalue .one, hread .one⟩, ⟨_, _, hvalue .two, hread .two⟩, ⟨_, _, hvalue .four, hread .four⟩⟩
  · intro hphase b w l
    simp only [List.forall_mem_cons, List.not_mem_nil, false_imp_iff, implies_true, and_true]
    have hwrite := atomically_wrData_of_closed hl hphase
    exact ⟨⟨_, hwrite .one _⟩, ⟨_, hwrite .two _⟩, ⟨_, hwrite .four _⟩⟩

/-! ### A read in its phase -/

/-- The value of a Data read in its phase: bytes of the buffer, then draws (41_register_access R210). -/
def State.dataValue (s : State) (D : Device) (n : Nat) : BitVec 32 :=
  leValue (D.readBuffer n ++ s.drawBytes (n - D.moveCount n))

theorem State.dataValue_lt (s : State) (D : Device) (n : Nat) : (s.dataValue D n).toNat < 2 ^ (8 * n) := by
  have hlen : (D.readBuffer n ++ s.drawBytes (n - D.moveCount n)).length = n := by
    simp [Nat.add_sub_cancel' (D.moveCount_le n)]
  have hlt := leValue_lt (D.readBuffer n ++ s.drawBytes (n - D.moveCount n))
  rwa [hlen] at hlt

/-- Byte `j` of the value is buffer byte `cursor + j`, inside the buffer. -/
theorem State.byteOf_dataValue (s : State) (D : Device) {n j : Nat} (hn : n ≤ 4) (hj : j < D.moveCount n) :
    byteOf (s.dataValue D n) j = D.pioBuf.read (D.pioCursor + j) := by
  have hle := D.moveCount_le n
  have hread : j < (D.readBuffer n).length := by simpa using hj
  rw [State.dataValue, byteOf_leValue (by simp; omega) (by omega), List.getElem_append_left hread]
  exact Memory.getElem_readBytes _ _ _ _ _

/-- The state after a Data read in its phase, before the end of the block is looked at (41_register_access R210). -/
def State.afterDataRead (s : State) (d : Slot) (n : Width) : State :=
  ((s.setReply (.value n (s.dataValue (s.dev d) n.bytes))).skipDraws (n.bytes - (s.dev d).moveCount n.bytes)).setDev d
    ((s.dev d).afterRead n.bytes)

theorem rdData_of_open {s : State} {c : Command} (hc : s.cur = some c) (hp : c.proto = .pioIn) (n : Width) :
    rdData n (s.setReply .none) =
      if (s.dev c.d).pioCursor + (s.dev c.d).moveCount n.bytes = 512 then pioInComplete c (s.afterDataRead c.d n)
      else s.afterDataRead c.d n := by
  have hphase : (s.setReply .none).openPhase .pioIn = some c := openPhase_eq_some.mpr ⟨hc, hp⟩
  rw [rdData, hphase]
  dsimp only
  rw [State.setReply_dev, State.setDev_dev_same]
  rfl

/-- A Data read in its phase makes no edge of the interrupt line. -/
theorem atomically_rdData_of_open {s : State} {c : Command} (hl : s.live) (hc : s.cur = some c) (hp : c.proto = .pioIn)
    (n : Width) :
    atomically (rdData n) s = .next
      (if (s.dev c.d).pioCursor + (s.dev c.d).moveCount n.bytes = 512 then pioInComplete c (s.afterDataRead c.d n)
       else s.afterDataRead c.d n) := by
  have hirq : (s.afterDataRead c.d n).irq = s.irq := State.setDev_irq _ _ _
  have heff := rdData_of_open hc hp n
  rw [atomically_of_irq_eq hl, heff]
  rw [heff]
  split_ifs
  · exact hirq
  · exact hirq

/-- A Data read that leaves bytes in the buffer moves the cursor alone. -/
theorem State.afterDataRead_eq (s : State) (d : Slot) (n : Width) :
    s.afterDataRead d n =
      { (s.setDev d { s.dev d with pioCursor := (s.dev d).pioCursor + (s.dev d).moveCount n.bytes }) with
        reply := .value n (s.dataValue (s.dev d) n.bytes)
        draws := s.draws + (n.bytes - (s.dev d).moveCount n.bytes) } := by
  cases d <;> rfl

/-- The Data read of the last byte ends the command in success, without an interrupt (42_command_engine R256). -/
theorem pioInComplete_afterDataRead {s : State} {c : Command} {n : Width}
    (hend : (s.dev c.d).pioCursor + (s.dev c.d).moveCount n.bytes = 512) :
    pioInComplete c (s.afterDataRead c.d n) =
      { (s.setDev c.d { s.dev c.d with pioCursor := 512 }) with
        regs := { s.regs with status := 0x50 }, cur := none, reply := .value n (s.dataValue (s.dev c.d) n.bytes)
        draws := s.draws + (n.bytes - (s.dev c.d).moveCount n.bytes)
        trace := s.trace ++ [.cmdEnd c.opcode c.d .success] } := by
  rw [State.afterDataRead_eq, hend]
  cases c with
  | mk opcode proto phase d feat => cases d <;> rfl

/-- What a Data read of any width does in its phase (41_register_access R210). -/
theorem atomically_rdData_result {s : State} {c : Command} (hl : s.live) (hc : s.cur = some c) (hp : c.proto = .pioIn)
    (n : Width) :
    let D := s.dev c.d
    let k := D.moveCount n.bytes
    ∃ r : BitVec 32, r.toNat < 2 ^ (8 * n.bytes) ∧ (∀ j, j < k → byteOf r j = D.pioBuf.read (D.pioCursor + j))
      ∧ atomically (rdData n) s = .next
          (if D.pioCursor + k = 512 then
            { (s.setDev c.d { D with pioCursor := 512 }) with
              regs := { s.regs with status := 0x50 }, cur := none, reply := .value n r, draws := s.draws + (n.bytes - k)
              trace := s.trace ++ [.cmdEnd c.opcode c.d .success] }
           else
            { (s.setDev c.d { D with pioCursor := D.pioCursor + k }) with
              reply := .value n r, draws := s.draws + (n.bytes - k) }) := by
  intro D k
  refine ⟨s.dataValue D n.bytes, s.dataValue_lt D n.bytes, fun j => s.byteOf_dataValue D n.bytes_le, ?_⟩
  rw [atomically_rdData_of_open hl hc hp n]
  split_ifs with hend
  · rw [pioInComplete_afterDataRead hend]
  · rw [State.afterDataRead_eq]

/-- Settles O33, width by width. -/
theorem dataReadInItsPhase : Obligations.DataReadInItsPhase := by
  intro s c hl hc hp
  have hread (n : Width) := atomically_rdData_result hl hc hp n
  simp only [List.forall_mem_cons, List.not_mem_nil, false_imp_iff, implies_true, and_true]
  exact ⟨hread .one, hread .two, hread .four⟩

/-! ### A write in its phase -/

/-- The buffer bytes after a Data write in its phase: the bytes of the value at the cursor, as far as the buffer goes, and
every other byte as it was (41_register_access R212, 20_memory R71). -/
theorem Device.read_writeBuffer {D : Device} (hwf : Memory.wf D.pioBuf = true) (v : BitVec 32) (n a : Nat) :
    (D.writeBuffer v n).pioBuf.read a =
      if D.pioCursor ≤ a ∧ a < D.pioCursor + D.moveCount n then byteOf v (a - D.pioCursor) else D.pioBuf.read a := by
  have hlen : (bytesOf v (D.moveCount n)).length = D.moveCount n := length_bytesOf v _
  split_ifs with hin
  · obtain ⟨i, rfl⟩ := Nat.exists_eq_add_of_le hin.1
    have hi : i < (bytesOf v (D.moveCount n)).length := by omega
    rw [Nat.add_sub_cancel_left]
    exact (Memory.read_writeBytes hwf hi).trans (getElem_bytesOf hi)
  · exact Memory.read_writeBytes_other (by omega)

theorem Device.wf_writeBuffer {D : Device} (hwf : Memory.wf D.pioBuf = true) (v : BitVec 32) (n : Nat) :
    Memory.wf (D.writeBuffer v n).pioBuf = true :=
  Memory.wf_writeBytes _ _ hwf

/-- The state after a Data write in its phase, before the end of the block is looked at (41_register_access R212). -/
def State.afterDataWrite (s : State) (d : Slot) (n : Width) (v : BitVec 32) : State :=
  (s.setReply .none).setDev d ((s.dev d).writeBuffer v n.bytes)

theorem wrData_of_open {s : State} {c : Command} (hc : s.cur = some c) (hp : c.proto = .pioOut) (n : Width)
    (v : BitVec 32) :
    wrData n v (s.setReply .none) =
      if (s.dev c.d).pioCursor + (s.dev c.d).moveCount n.bytes = 512 then pioOutComplete c (s.afterDataWrite c.d n v)
      else s.afterDataWrite c.d n v := by
  have hphase : (s.setReply .none).openPhase .pioOut = some c := openPhase_eq_some.mpr ⟨hc, hp⟩
  rw [wrData, hphase]
  dsimp only
  rw [State.setReply_dev, State.setDev_dev_same]
  rfl

/-- A Data write that leaves room in the buffer stores its bytes and moves the cursor. -/
theorem State.afterDataWrite_eq (s : State) (d : Slot) (n : Width) (v : BitVec 32) :
    s.afterDataWrite d n v =
      { (s.setDev d { s.dev d with
          pioBuf := ((s.dev d).writeBuffer v n.bytes).pioBuf
          pioCursor := (s.dev d).pioCursor + (s.dev d).moveCount n.bytes }) with reply := .none } := by
  cases d <;> rfl

/-- A completion and the edge that the interrupt it asserts calls for (42_command_engine R257, 60_exceptions R515). -/
theorem settle_complete {s before : State} (hirq : s.irq = before.irq) (c : Command) (ok : Bool) (r : Reply) :
    (complete c ok (s.setReply r)).settle before = s.closed c ok [] r := by
  have hline : (complete c ok (s.setReply r)).irq = s.unmasked := by cases ok <;> rfl
  rw [settle_eq_withTrace, ← hirq, hline, complete_trace, State.closed, List.append_nil]
  cases ok <;> rfl

/-- The Data write of the last byte ends the command by the driver's answer on the whole buffer (42_command_engine R258,
43_ata_commands R325). -/
theorem pioOutComplete_afterDataWrite (s : State) (c : Command) (n : Width) (v : BitVec 32) :
    pioOutComplete c (s.afterDataWrite c.d n v) =
      complete c ((s.dev c.d).driver.securityUnlockOk ((s.dev c.d).writeBuffer v n.bytes).pioBuf)
        ((s.setDev c.d { s.dev c.d with
          pioBuf := ((s.dev c.d).writeBuffer v n.bytes).pioBuf, pioCursor := 512 }).setReply .none) := by
  cases c with
  | mk opcode proto phase d feat => cases d <;> rfl

/-- What a Data write of any width does in its phase (41_register_access R212). -/
theorem atomically_wrData_result {s : State} {c : Command} (hl : s.live) (hc : s.cur = some c) (hp : c.proto = .pioOut)
    (hwf : Memory.wf (s.dev c.d).pioBuf = true) (n : Width) (v : BitVec 32) :
    let D := s.dev c.d
    let k := D.moveCount n.bytes
    ∃ buf : Block, Memory.wf buf = true
      ∧ (∀ a, buf.read a =
          if D.pioCursor ≤ a ∧ a < D.pioCursor + k then byteOf v (a - D.pioCursor) else D.pioBuf.read a)
      ∧ atomically (wrData n v) s = .next
          (if D.pioCursor + k = 512 then
            (s.setDev c.d { D with pioBuf := buf, pioCursor := 512 }).closed c (D.driver.securityUnlockOk buf) [] .none
           else { (s.setDev c.d { D with pioBuf := buf, pioCursor := D.pioCursor + k }) with reply := .none }) := by
  intro D k
  refine ⟨(D.writeBuffer v n.bytes).pioBuf, D.wf_writeBuffer hwf v n.bytes, D.read_writeBuffer hwf v n.bytes, ?_⟩
  rw [atomically_live hl, wrData_of_open hc hp]
  split_ifs with hend
  · rw [pioOutComplete_afterDataWrite, settle_complete (State.setDev_irq s c.d _)]
  · have hirq : (s.afterDataWrite c.d n v).irq = s.irq := State.setDev_irq _ c.d _
    rw [settle_of_irq_eq hirq.symm, State.afterDataWrite_eq]

/-- Settles O35, width by width. -/
theorem dataWriteInItsPhase : Obligations.DataWriteInItsPhase := by
  intro s c hl hc hp hwf b w l
  have hwrite := atomically_wrData_result hl hc hp hwf
  simp only [List.forall_mem_cons, List.not_mem_nil, false_imp_iff, implies_true, and_true]
  exact ⟨hwrite .one _, hwrite .two _, hwrite .four _⟩

end Sys2Proof.Machine
end

section
/-! PROOFS. The accesses without a meaning: they decode, and they are refused with their fields (41_register_access R219;
30_encoding R100, R124). -/

namespace Sys2Proof

/-- What leaves an access of `n` bytes without a meaning: the reserved width code, more than one byte anywhere but at Data, a
control offset other than 6, or bit 3 (41_register_access R219, 30_encoding R124). -/
def PortCode.Meaningless (p : PortCode) (n : Nat) : Prop :=
  p.nCode = 3 ∨ (n ≠ 1 ∧ ¬(p.blk = 0 ∧ p.off = 0)) ∨ (p.blk = 1 ∧ p.off ≠ 6) ∨ p.zero = 1

/-- Every access with a row of its own has a meaning (30_encoding R123). -/
theorem not_meaningless_of_mem_namedPortCodes :
    ∀ code ∈ namedPortCodes, ¬(PortCode.unpack code).Meaningless (PortCode.unpack code).widthBytes := by
  unfold PortCode.Meaningless
  decide

theorem pack_notMem_namedPortCodes {p : PortCode} (h : p.Meaningless p.widthBytes) : p.pack ∉ namedPortCodes := by
  intro hmem
  have hnot := not_meaningless_of_mem_namedPortCodes _ hmem
  rw [PortCode.unpack_pack] at hnot
  exact hnot h

/-- The reserved width code decodes to an access of the width beside it (30_encoding R100; log 15). -/
theorem decodePort_pack_of_reservedWidth {p : PortCode} {o : Operands} (hp : p.nCode = 3)
    (hn : ¬(o.width = 1 ∨ o.width = 2 ∨ o.width = 4)) :
    decodePort p.pack o = .ok (.refusedWidth p.blk p.dir p.zero p.off o.width) := by
  have hcode : (PortCode.unpack p.pack).nCode = 3 := by rw [PortCode.unpack_pack, hp]
  rw [decodePort_of_reservedWidth hcode, if_neg hn, PortCode.unpack_pack]

theorem decodePort_pack_of_meaningless {p : PortCode} {o : Operands} (hp : p.nCode ≠ 3) (h : p.Meaningless p.widthBytes) :
    decodePort p.pack o = .ok (.refusedAccess p) := by
  have hcode : (PortCode.unpack p.pack).nCode ≠ 3 := by rwa [PortCode.unpack_pack]
  rw [decodePort_of_unnamed hcode (pack_notMem_namedPortCodes h), PortCode.unpack_pack]

end Sys2Proof

namespace Sys2Proof.Machine

/-- An operation that is refused records the reason and changes nothing else (60_exceptions R531). -/
theorem atomically_refuse {s : State} (hl : s.live) (r : RefuseReason) :
    atomically (·.refuse r) s = .next { s with refused := some r, reply := .none } :=
  atomically_of_irq_eq hl rfl

/-- Settles O39: the access has the reserved width code, or a code without a row. -/
theorem refusedAccesses : Obligations.RefusedAccesses := by
  intro s o p hl n hwidth hmeaningless
  by_cases hp : p.nCode = 3
  · have hn : n = o.width.toNat := if_pos hp
    have hreserved : ¬(o.width = 1 ∨ o.width = 2 ∨ o.width = 4) := by
      have := hwidth hp
      rw [hn] at this
      bv_omega
    refine ⟨_, decodePort_pack_of_reservedWidth hp hreserved, .inl rfl, ?_⟩
    rw [hn]
    exact atomically_refuse hl _
  · have hn : n = p.widthBytes := if_neg hp
    rw [hn] at hmeaningless ⊢
    exact ⟨_, decodePort_pack_of_meaningless hp hmeaningless, .inr rfl, atomically_refuse hl _⟩

end Sys2Proof.Machine
end

section
/-! PROOFS. What every kind of access does while soft reset is held (70_reset_and_hazards R604; 41_register_access R210 to R216;
44_dma_engine R384). -/

namespace Sys2Proof.Machine

/-- Without a command in flight no window is armed for the bus master (44_dma_engine R384). -/
theorem checkWindow_of_cur_none {s : State} (hc : s.cur = none) (d : Slot) (isWrite : Bool) :
    checkWindow d isWrite s = some .dmaNoActiveWindow := by
  have hphase : s.openPhase .dma = none := openPhase_eq_none.mpr (by simp [hc])
  rw [checkWindow, hphase]

theorem exec_dmaReadSector_of_cur_none {s : State} (hl : s.live) (hc : s.cur = none) (d : Slot) :
    exec (.dmaReadSector d) s = .next { s with fault := some .dmaNoActiveWindow, reply := .none } :=
  atomically_of_fault (f := dmaReadSector d) hl (by rw [dmaReadSector, checkWindow_of_cur_none (s := s.setReply .none) hc])

theorem exec_dmaWriteSector_of_cur_none {s : State} (hl : s.live) (hc : s.cur = none) (d : Slot) (buf : List Byte) :
    exec (.dmaWriteSector d buf) s = .next { s with fault := some .dmaNoActiveWindow, reply := .none } :=
  atomically_of_fault (f := dmaWriteSector d buf) hl (by
    rw [dmaWriteSector, checkWindow_of_cur_none (s := s.setReply .none) hc])

/-- A write of offset 1 to 7, or a command, in soft reset faults (41_register_access R215, R216). -/
theorem exec_write_of_reset {s : State} (hl : s.live) (hs : s.regs.devCtl.getLsbD 2 = true) {i : Instr} {v : Byte}
    (hi : i ∈ [.wrFeatures v, .wrSectorCount v, .wrSectorNumber v, .wrCylLow v, .wrCylHigh v, .wrDeviceHead v, .wrCommand v]
      ∨ (encode i).format = .cmd) :
    exec i s = .next { s with fault := some .hostWriteDuringReset, reply := .none } := by
  have htask (reg : TaskReg) := exec_taskReg_write_of_reset hl hs reg v
  have hcommand (h : (encode i).format = .cmd ∨ ∃ v, i = .wrCommand v) := (commandWriteFaults i s hl h).1 hs
  obtain hi | hi := hi
  · simp only [List.mem_cons, List.not_mem_nil, or_false] at hi
    obtain rfl | rfl | rfl | rfl | rfl | rfl | rfl := hi
    · exact htask .features
    · exact htask .sectorCount
    · exact htask .sectorNumber
    · exact htask .cylLow
    · exact htask .cylHigh
    · exact htask .devHead
    · exact hcommand (.inr ⟨v, rfl⟩)
  · exact hcommand (.inl hi)

/-- Settles O26: in soft reset no command is in flight and Status is `ST_BUSY`, and the rule of each access does the rest. -/
theorem whileSoftResetIsHeld : Obligations.WhileSoftResetIsHeld := by
  intro s hl hinv hs
  have hcur : s.cur = none := (hinv.resetHeld hs).1
  have hstatus := hinv.status_of_reset hs
  have hclosed (p : Proto) (c : Command) (hc : s.cur = some c) : c.proto ≠ p := by simp [hcur] at hc
  have hreg := atomically_rdReg hl
  have hread := atomically_rdData_of_closed hl (hclosed .pioIn)
  have hwrite := atomically_wrData_of_closed hl (hclosed .pioOut)
  refine ⟨?reads, ⟨_, exec_rdStatus hl, by rw [hstatus]; rfl, rfl⟩, fun i v => exec_write_of_reset hl hs, ?dataReads,
    fun b w l => ?dataWrites, fun d buf => ?sectors, fun d present capacity img hk => ?medium, fun d drv hid => ?attach⟩
  case reads =>
    simp only [List.forall_mem_cons, List.not_mem_nil, false_imp_iff, implies_true, and_true, ← hstatus]
    exact ⟨hreg _, hreg _, hreg _, hreg _, hreg _, hreg _, hreg _⟩
  case dataReads =>
    simp only [List.forall_mem_cons, List.not_mem_nil, false_imp_iff, implies_true, and_true]
    exact ⟨⟨_, _, hread .one⟩, ⟨_, _, hread .two⟩, ⟨_, _, hread .four⟩⟩
  case dataWrites =>
    simp only [List.forall_mem_cons, List.not_mem_nil, false_imp_iff, implies_true, and_true]
    exact ⟨⟨_, hwrite .one _⟩, ⟨_, hwrite .two _⟩, ⟨_, hwrite .four _⟩⟩
  case sectors =>
    simp only [List.forall_mem_cons, List.not_mem_nil, false_imp_iff, implies_true, and_true]
    exact ⟨exec_dmaReadSector_of_cur_none hl hcur d, exec_dmaWriteSector_of_cur_none hl hcur d buf⟩
  case medium => exact exec_of_envAllowed hl (envAllowed_mediumChange.mpr hk)
  case attach => exact exec_of_envAllowed hl (envAllowed_attach.mpr ⟨hcur, hid⟩)

end Sys2Proof.Machine
end

section
/-! PROOFS. Which operations start a command and which end one (42_command_engine R250, R252, R253; 70_reset_and_hazards
R601). -/

namespace Sys2Proof.Machine

/-! ### Effects that can end the current command -/

/-- The effect leaves the current command as it is, or ends it; it can end those that satisfy `p` alone. -/
def EndsOnly (p : Command → Prop) (f : State → State) : Prop :=
  ∀ s, (f s).cur = s.cur ∨ ∃ c, s.cur = some c ∧ p c ∧ (f s).cur = none

/-- A data-in phase ends by a read of its own data port alone (42_command_engine R256). -/
theorem rdData_endsOnly (n : Width) : EndsOnly (·.proto = .pioIn) (rdData n) := by
  intro s
  unfold rdData
  split
  · exact .inl rfl
  next c hphase =>
    obtain ⟨hc, hp⟩ := openPhase_eq_some.mp hphase
    dsimp only
    split
    · exact .inr ⟨c, hc, hp, rfl⟩
    · exact .inl (by simp)

/-- A data-out phase ends by a write of its own data port alone (42_command_engine R258). -/
theorem wrData_endsOnly (n : Width) (v : BitVec 32) : EndsOnly (·.proto = .pioOut) (wrData n v) := by
  intro s
  unfold wrData
  split
  · exact .inl rfl
  next c hphase =>
    obtain ⟨hc, hp⟩ := openPhase_eq_some.mp hphase
    dsimp only
    split
    · exact .inr ⟨c, hc, hp, rfl⟩
    · exact .inl (by simp)

/-- The end of a window is the end of the command that is current, if any. -/
theorem dmaComplete_cur (ok : Bool) (s : State) : (dmaComplete ok s).cur = none := by
  unfold dmaComplete
  split
  · assumption
  · rfl

/-- After a sector the command goes on or ends (44_dma_engine R381, R382). -/
theorem afterSector_cur (d : Slot) (answer : Reply) (moved : Bool × State) :
    (afterSector d answer moved).cur = moved.2.cur ∨ (afterSector d answer moved).cur = none := by
  unfold afterSector
  split_ifs
  · exact .inr (dmaComplete_cur true _)
  · exact .inl rfl
  · exact .inr (dmaComplete_cur false _)

theorem readDmaSector_cur (d : Slot) (s : State) : (readDmaSector d s).2.cur = s.cur := by
  obtain ⟨s', rfl, -, -, h⟩ | ⟨s', rfl | rfl, h⟩ := readDmaSector_cases d s <;> simp [h]

theorem writeDmaSector_cur (d : Slot) (buf : List Byte) (s : State) : (writeDmaSector d buf s).2.cur = s.cur := by
  obtain ⟨-, -, h⟩ | ⟨-, -, h⟩ | ⟨-, h⟩ := writeDmaSector_cases d buf s <;> simp [h]

/-- A sector transfer through an armed window can end the command of the window's device alone (44_dma_engine R384). -/
theorem afterSector_ends {d : Slot} {isWrite : Bool} {s : State} (hw : checkWindow d isWrite s = none) (answer : Reply)
    {moved : Bool × State} (hmoved : moved.2.cur = s.cur) :
    (afterSector d answer moved).cur = s.cur ∨
      ∃ c, s.cur = some c ∧ (c.proto = .dma ∧ c.d = d) ∧ (afterSector d answer moved).cur = none := by
  obtain ⟨c, hc, hp, hd, -, -⟩ := checkWindow_eq_none.mp hw
  obtain h | h := afterSector_cur d answer moved
  · exact .inl (h.trans hmoved)
  · exact .inr ⟨c, hc, ⟨hp, hd⟩, h⟩

theorem dmaReadSector_endsOnly (d : Slot) : EndsOnly (fun c => c.proto = .dma ∧ c.d = d) (dmaReadSector d) := by
  intro s
  unfold dmaReadSector
  split
  · exact .inl rfl
  next hw => exact afterSector_ends hw _ (readDmaSector_cur d s)

theorem dmaWriteSector_endsOnly (d : Slot) (buf : List Byte) :
    EndsOnly (fun c => c.proto = .dma ∧ c.d = d) (dmaWriteSector d buf) := by
  intro s
  unfold dmaWriteSector
  split
  · exact .inl rfl
  next hw =>
    split
    · exact afterSector_ends hw _ (writeDmaSector_cur d buf s)
    · exact .inl rfl

theorem dmaAbort_endsOnly (d : Slot) : EndsOnly (fun c => c.proto = .dma ∧ c.d = d) (dmaAbort d) := by
  intro s
  unfold dmaAbort
  split
  · exact .inl rfl
  next c hphase =>
    obtain ⟨hc, hp⟩ := openPhase_eq_some.mp hphase
    split
    next hd => exact .inr ⟨c, hc, ⟨hp, hd⟩, dmaComplete_cur false _⟩
    next => exact .inl rfl

/-! ### What a command leaves current -/

/-- The command object in its data phase (42_command_engine R255). -/
def Command.opened (c : Command) : Command := { c with phase := .dataPhase }

theorem identifyWith_cur (c : Command) (record : Option Block) (s : State) :
    (identifyWith c record s).cur = none ∨ (identifyWith c record s).cur = some c.opened := by
  cases record with
  | none => exact .inl rfl
  | some b => exact .inr rfl

theorem dmaCommand_cur (isWrite : Bool) (c : Command) (s : State) :
    (dmaCommand isWrite c s).cur = none ∨ (dmaCommand isWrite c s).cur = some c.opened := by
  unfold dmaCommand
  split
  · exact .inl rfl
  · exact .inr rfl

/-- A command that starts on a channel without one leaves none, or itself in the data phase of its protocol
(42_command_engine R250, R252). -/
theorem CommandRun.cur {v : Byte} {run : State → State} (h : CommandRun v run) {s : State} (hc : s.cur = none) :
    (run s).cur = none ∨ ∃ proto, proto ≠ .nonData ∧ (run s).cur = some (newCommand v proto s).opened := by
  have hdata {proto : Proto} {cur : Option Command} (hp : proto ≠ .nonData)
      (hcur : cur = none ∨ cur = some (newCommand v proto s).opened) :
      cur = none ∨ ∃ proto, proto ≠ .nonData ∧ cur = some (newCommand v proto s).opened :=
    hcur.imp_right fun h => ⟨proto, hp, h⟩
  cases h with
  | identifyDevice => exact hdata (proto := .pioIn) (by decide) (identifyWith_cur _ _ _)
  | identifyPacketDevice => exact hdata (proto := .pioIn) (by decide) (identifyWith_cur _ _ _)
  | initializeDeviceParameters | setFeatures => exact .inl rfl
  | securityUnlock => exact hdata (proto := .pioOut) (by decide) (.inr rfl)
  | readDma => exact hdata (proto := .dma) (by decide) (dmaCommand_cur false _ _)
  | writeDma => exact hdata (proto := .dma) (by decide) (dmaCommand_cur true _ _)
  | packet => exact .inl hc
  | unsupported =>
    unfold unsupportedCommand
    split
    · exact .inl rfl
    · exact .inl hc

/-- Latching the Command byte changes nothing that a command object takes from the registers (30_encoding R102). -/
theorem newCommand_latched (v w : Byte) (proto : Proto) (s : State) :
    newCommand v proto (s.latched w) = newCommand v proto s := by
  simp only [newCommand, commandWord_dev, commandWord_feat]
  rfl

/-! ### Every operation -/

/-- The operation can end the command `c`: an access of its own data port, a bus-master operation on its own device, or the
rising edge of SRST (42_command_engine R253, 70_reset_and_hazards R601). -/
def CanEnd (i : Instr) (s : State) (c : Command) : Prop :=
  (c.proto = .pioIn ∧ (i = .rdDataB ∨ i = .rdDataW ∨ i = .rdDataD))
  ∨ (c.proto = .pioOut ∧ ((∃ v, i = .wrDataB v) ∨ (∃ v, i = .wrDataW v) ∨ (∃ v, i = .wrDataD v)))
  ∨ (c.proto = .dma ∧ (i = .dmaReadSector c.d ∨ (∃ buf, i = .dmaWriteSector c.d buf) ∨ i = .dmaAbort c.d))
  ∨ (∃ v, i = .wrDevCtl v ∧ s.regs.devCtl.getLsbD 2 = false ∧ v.getLsbD 2 = true)

/-- What one operation can make of the current command. -/
inductive CurStep (i : Instr) (s : State) : Option Command → Prop where
  /-- No change. -/
  | kept : CurStep i s s.cur
  /-- A Command write opens a data phase (42_command_engine R250). -/
  | started (v : Byte) (proto : Proto) (hi : WritesCommand i v) (hp : proto ≠ .nonData) (hc : s.cur = none) :
      CurStep i s (some (newCommand v proto s).opened)
  /-- The command ends (42_command_engine R253). -/
  | ended (h : ∀ c, s.cur = some c → CanEnd i s c) : CurStep i s none

theorem CurStep.of_eq {i : Instr} {s : State} {cur : Option Command} (h : cur = s.cur) : CurStep i s cur := h ▸ .kept

/-- An atomic operation that can end the commands of `p` alone, each of which the operation can end. -/
theorem EndsOnly.curStep {p : Command → Prop} {f : State → State} {i : Instr} {s t : State} (hf : EndsOnly p f)
    (hp : ∀ c, p c → CanEnd i s c) (h : atomically f s = .next t) : CurStep i s t.cur := by
  obtain ⟨-, rfl⟩ := atomically_next.mp h
  rw [settle_cur]
  obtain hkept | ⟨c, hc, hpc, hnone⟩ := hf (s.setReply .none)
  · exact .of_eq hkept
  · rw [hnone]
    refine .ended fun c' hc' => ?_
    obtain rfl : c = c' := Option.some.inj (hc.symm.trans hc')
    exact hp c hpc

/-- An atomic operation that leaves the current command alone. -/
theorem CurStep.of_atomically {f : State → State} {i : Instr} {s t : State} (h : atomically f s = .next t)
    (hf : ∀ s, (f s).cur = s.cur) : CurStep i s t.cur := by
  obtain ⟨-, rfl⟩ := atomically_next.mp h
  exact .of_eq (by rw [settle_cur, hf, State.setReply_cur])

/-- An environment operation leaves the current command alone (40_driver_capability R170, R172). -/
theorem CurStep.of_whenAllowed_setDev {allowed : Bool} {d : Slot} {g : Device → Device} {i : Instr} {s t : State}
    (h : whenAllowed allowed (fun s => s.setDev d (g (s.dev d))) s = .next t) : CurStep i s t.cur := by
  obtain ⟨-, -, rfl⟩ := whenAllowed_next.mp h
  exact .of_eq (by simp)

theorem wrTask_cur (reg : TaskReg) (v : Byte) (s : State) : (wrTask reg v s).cur = s.cur := by
  unfold wrTask
  split_ifs <;> rfl

theorem softResetAssert_cur (s : State) : (softResetAssert s).cur = none := abandonCommand_cur s

/-- A Device Control write ends the command at the rising edge of SRST alone (70_reset_and_hazards R601). -/
theorem CurStep.of_wrDevCtl {v : Byte} {s t : State} (h : exec (.wrDevCtl v) s = .next t) :
    CurStep (.wrDevCtl v) s t.cur := by
  obtain ⟨-, rfl⟩ := atomically_next.mp h
  rw [settle_cur]
  by_cases hrise : Machine.srst s.regs.devCtl = false ∧ Machine.srst v = true
  · rw [wrDevCtl_of_rise (s := s.setReply .none) hrise, softResetAssert_cur]
    exact .ended fun c _ => .inr (.inr (.inr ⟨v, rfl, hrise⟩))
  by_cases hfall : Machine.srst s.regs.devCtl = true ∧ Machine.srst v = false
  · rw [wrDevCtl_of_fall (s := s.setReply .none) hfall]
    exact .kept
  · rw [wrDevCtl_of_level (s := s.setReply .none) hrise hfall]
    exact .kept

/-- A Command write starts a command on a channel without one, and ends none (42_command_engine R250). -/
theorem CurStep.of_commandWrite {i : Instr} {v : Byte} {run : State → State} {s t : State} (hi : WritesCommand i v)
    (hrun : CommandRun v run) (h : commandWrite v run s = .next t) : CurStep i s t.cur := by
  obtain ⟨-, ⟨-, rfl⟩ | ⟨-, -, rfl⟩ | ⟨-, hc, ht⟩⟩ := commandWrite_next h
  · exact .of_eq (by simp)
  · exact .of_eq (by simp)
  · obtain rfl : t = (run (s.latched v)).settle s := ht
    rw [settle_cur]
    obtain hnone | ⟨proto, hp, hsome⟩ := hrun.cur (s := s.latched v) hc
    · exact .of_eq (hnone.trans hc.symm)
    · rw [hsome, newCommand_latched]
      exact .started v proto hi hp hc

/-- All that an operation can do to the current command. -/
theorem exec_curStep {i : Instr} {s t : State} (h : exec i s = .next t) : CurStep i s t.cur := by
  have hcommand {v : Byte} {run : State → State} (hrun : CommandRun v run) (hi : WritesCommand i v)
      (h : commandWrite v run s = .next t) : CurStep i s t.cur := .of_commandWrite hi hrun h
  cases i with
  | rdDataB | rdDataW | rdDataD =>
    exact (rdData_endsOnly _).curStep (fun c hp => .inl ⟨hp, by simp⟩) h
  | wrDataB | wrDataW | wrDataD =>
    exact (wrData_endsOnly _ _).curStep (fun c hp => .inr (.inl ⟨hp, by simp⟩)) h
  | rdError | rdSectorCount | rdSectorNumber | rdCylLow | rdCylHigh | rdDeviceHead | rdAltStatus | rdStatus
  | dmaQuery => exact .of_atomically h fun _ => rfl
  | refusedWidth | refusedAccess => exact .of_atomically (f := (·.refuse _)) h fun _ => rfl
  | wrFeatures | wrSectorCount | wrSectorNumber | wrCylLow | wrCylHigh | wrDeviceHead =>
    exact .of_atomically h (wrTask_cur _ _)
  | wrDevCtl => exact .of_wrDevCtl h
  | dmaReadSector d =>
    exact (dmaReadSector_endsOnly d).curStep (fun c ⟨hp, hd⟩ => .inr (.inr (.inl ⟨hp, .inl (by rw [hd])⟩))) h
  | dmaWriteSector d buf =>
    exact (dmaWriteSector_endsOnly d buf).curStep
      (fun c ⟨hp, hd⟩ => .inr (.inr (.inl ⟨hp, .inr (.inl ⟨buf, by rw [hd]⟩)⟩))) h
  | dmaAbort d =>
    exact (dmaAbort_endsOnly d).curStep (fun c ⟨hp, hd⟩ => .inr (.inr (.inl ⟨hp, .inr (.inr (by rw [hd]))⟩))) h
  | mediumChange d present capacity img => exact .of_whenAllowed_setDev (g := (·.changeMedium _)) h
  | attach d drv => exact .of_whenAllowed_setDev (g := (·.attach drv)) h
  | wrCommand v => exact hcommand (.dispatch v) (.inl rfl) h
  | identifyDevice => exact hcommand .identifyDevice (.inr ⟨rfl, rfl⟩) h
  | identifyPacketDevice => exact hcommand .identifyPacketDevice (.inr ⟨rfl, rfl⟩) h
  | initializeDeviceParameters => exact hcommand .initializeDeviceParameters (.inr ⟨rfl, rfl⟩) h
  | setFeatures => exact hcommand .setFeatures (.inr ⟨rfl, rfl⟩) h
  | securityUnlock => exact hcommand .securityUnlock (.inr ⟨rfl, rfl⟩) h
  | readDma => exact hcommand .readDma (.inr ⟨rfl, rfl⟩) h
  | writeDma => exact hcommand .writeDma (.inr ⟨rfl, rfl⟩) h
  | packet => exact hcommand .packet (.inr ⟨rfl, rfl⟩) h
  | _ => exact hcommand (.unsupported _) (.inr ⟨rfl, rfl⟩) h

/-- Settles O13, by the cases of `CurStep`. -/
theorem onlyTheseOperationsStartOrEndACommand : Obligations.OnlyTheseOperationsStartOrEndACommand := by
  intro i s t h
  have hstep := exec_curStep h
  generalize t.cur = cur at hstep
  cases hstep with
  | kept => exact ⟨fun c hs ht => absurd (hs.symm.trans ht) (by simp), fun c hs => .inl hs⟩
  | started v proto hi hp hc =>
    refine ⟨fun c _ ht => ?_, fun c hs => absurd (hc.symm.trans hs) (by simp)⟩
    obtain rfl : (newCommand v proto s).opened = c := Option.some.inj ht
    exact ⟨rfl, hp, newCommand_d v proto s, commandWord_feat s.regs, hi⟩
  | ended hend => exact ⟨fun c _ ht => absurd ht (by simp), fun c hs => .inr ⟨rfl, hend c hs⟩⟩

end Sys2Proof.Machine
end

section
/-! PROOFS. The unsupported command bytes (42_command_engine R262, 30_encoding R122): a failed non-data command, or a
refusal. -/

namespace Sys2Proof.Machine

/-- A command that ends in the step of its Command write: its start, what it logs, its end, and the edge that its one
interrupt calls for (42_command_engine R250, R257; 60_exceptions R515). -/
theorem settle_complete_latched {s : State} (hc : s.cur = none) (c : Command) (ok : Bool) (notes : List Event) :
    (complete c ok ((s.latched c.opcode).withTrace (s.trace ++ [.cmdStart c.opcode c.d] ++ notes))).settle s
      = s.ended c.opcode c.d ok notes := by
  have hcur : s.setCur none = s := by
    rw [← hc]
    rfl
  rw [settle_eq_withTrace, ← hcur]
  cases ok <;> rfl

/-- With `UNSUPPORTED_ABORTS` the command starts, logs its diagnostic and fails (42_command_engine R262). -/
theorem unsupportedCommand_of_aborts {s : State} (h : s.unsupportedAborts = true) (v : Byte) :
    unsupportedCommand v (s.latched v) =
      complete (newCommand v .nonData s) false
        ((s.latched v).withTrace (s.trace ++ [.cmdStart v s.selected] ++ [.diag .unsupportedCommand])) := by
  have hlatched : (s.latched v).unsupportedAborts = true := h
  rw [unsupportedCommand, if_pos hlatched, newCommand_latched, newCommand_d]
  rfl

/-- The state of a refused command: the byte latched, the interrupt acknowledged, the line low (log 12). -/
theorem settle_refuse_latched (s : State) (v : Byte) (r : RefuseReason) :
    ((s.latched v).refuse r).settle s =
      { s with
        regs := { s.regs with command := v }, intPending := false, refused := some r, reply := .none
        trace := s.trace ++ edge s.irq false } :=
  settle_eq_withTrace _ _

/-- What an unsupported byte does on an idle channel (42_command_engine R262). -/
theorem commandWrite_unsupported {s : State} (h : s.idle) (v : Byte) :
    commandWrite v (unsupportedCommand v) s = .next
      (if s.unsupportedAborts then s.ended v s.selected false [.diag .unsupportedCommand]
       else
        { s with
          regs := { s.regs with command := v }, intPending := false, refused := some (.unsupportedCommand v)
          reply := .none, trace := s.trace ++ edge s.irq false }) := by
  have hwrite : commandWrite v (unsupportedCommand v) s = .next ((unsupportedCommand v (s.latched v)).settle s) :=
    commandWrite_idle h
  obtain ⟨-, -, hc⟩ := h
  rw [hwrite]
  split_ifs with hab
  · rw [unsupportedCommand_of_aborts hab, ← newCommand_d v .nonData s]
    exact congrArg _ (settle_complete_latched hc (newCommand v .nonData s) false [.diag .unsupportedCommand])
  · rw [unsupportedCommand_of_refused (s := s.latched v) (Bool.eq_false_iff.mpr hab), settle_refuse_latched]

/-- Settles O47: every row is a Command write of its byte that finds the byte unsupported. -/
theorem unsupportedCommands : Obligations.UnsupportedCommands := by
  intro s other hidle rows1 rows2 rows3 p hp
  have hrows : (rows1 ++ rows2 ++ rows3).map (fun p => exec p.1)
      = (rows1 ++ rows2 ++ rows3).map (fun p => commandWrite p.2 (unsupportedCommand p.2)) := rfl
  have hrow : exec p.1 = commandWrite p.2 (unsupportedCommand p.2) := List.map_inj_left.mp hrows p hp
  rw [hrow, commandWrite_unsupported hidle]

end Sys2Proof.Machine
end

section
/-! PROOFS. A read transfer sector by sector: one sector read of an armed read window, and a run of them to the window's end
(44_dma_engine R374, R376, R381, R386, R387). -/

namespace Sys2Proof.Machine

/-! ### One operation after others -/

/-- A run of operations and then one more. -/
theorem execAll_concat {is : List Instr} {i : Instr} {s t u : State} (h : execAll is s = some t) (hi : exec i t = .next u) :
    execAll (is ++ [i]) s = some u := by
  induction is generalizing s with
  | nil =>
    obtain rfl : s = t := Option.some.inj h
    simp [execAll, hi]
  | cons j js ih =>
    simp only [List.cons_append, execAll] at h ⊢
    split at h
    · exact ih h
    · cases h

/-! ### The window on its way -/

/-- The device after `k` sectors of its window (44_dma_engine R374, R375). -/
def Device.movedBy (D : Device) (k : Nat) : Device :=
  { D with dma := { D.dma with curLba := BitVec.ofNat 32 (D.dma.curLba.toNat + k) } }

theorem Device.movedBy_zero (D : Device) : D.movedBy 0 = D := by
  simp [Device.movedBy]

/-- Inside the window the current LBA does not wrap, for the window's end is an LBA. -/
theorem Device.movedBy_curLba {D : Device} {k : Nat} (h : D.dma.curLba.toNat + k ≤ D.dma.endLba.toNat) :
    (D.movedBy k).dma.curLba.toNat = D.dma.curLba.toNat + k := by
  have hend : D.dma.endLba.toNat < 2 ^ 32 := D.dma.endLba.isLt
  simp only [Device.movedBy, BitVec.toNat_ofNat]
  exact Nat.mod_eq_of_lt (by omega)

theorem Device.advance_movedBy {D : Device} {k : Nat} (h : D.dma.curLba.toNat + k ≤ D.dma.endLba.toNat) :
    (D.movedBy k).advance = D.movedBy (k + 1) := by
  rw [Device.advance, D.movedBy_curLba h]
  rfl

theorem Device.movedBy_endDma (D : Device) (k : Nat) : (D.movedBy k).endDma = D.unarmed := rfl

/-- The window is finished exactly when every sector of it has moved (44_dma_engine R377). -/
theorem Device.movedBy_isDmaFinished {D : Device} {k : Nat} (h : D.dma.curLba.toNat + k ≤ D.dma.endLba.toNat) :
    (D.movedBy k).isDmaFinished = decide (D.dma.curLba.toNat + k = D.dma.endLba.toNat) := by
  rw [← D.movedBy_curLba h, Device.isDmaFinished]
  exact decide_eq_decide.mpr BitVec.toNat_inj.symm

/-! ### One sector -/

/-- The command `c` reads its window on device `d`: the window is armed for a read, and all of it lies on an inserted medium
(44_dma_engine R371, R384). -/
structure Reading (c : Command) (d : Slot) (s : State) : Prop where
  live : s.live
  cur : s.cur = some c
  isDma : c.proto = .dma
  device : c.d = d
  active : (s.dev d).transferActive = true
  isRead : (s.dev d).dma.isWrite = false
  present : (s.dev d).driver.medium.present = true
  inside : (s.dev d).dma.endLba.toNat ≤ (s.dev d).driver.medium.capacity.toNat

/-- The backend read of the sector at the current LBA, as it stands in the trace when it succeeds (10_state R54). -/
def State.sectorRead (s : State) (d : Slot) : Event :=
  .backendRead d (s.dev d).sectorAddress (s.dev d).driver.sectorSize .ok

/-- The state after the backend gave the sector at the current LBA (44_dma_engine R374). -/
def State.afterSectorRead (s : State) (d : Slot) : State :=
  (s.afterBackendCall.emit (s.sectorRead d)).setDev d (s.dev d).advance

theorem State.afterSectorRead_irq (s : State) (d : Slot) : (s.afterSectorRead d).irq = s.irq :=
  State.setDev_irq _ d _

/-- A sector of the window passes the driver's checks (40_driver_capability R158). -/
theorem Reading.readChecks {c : Command} {d : Slot} {s : State} (h : Reading c d s)
    (hopen : (s.dev d).dma.curLba.toNat < (s.dev d).dma.endLba.toNat) :
    (s.dev d).driver.readChecks (s.dev d).sectorAddress (s.dev d).driver.sectorSize = true := by
  have hsector : (s.dev d).dma.curLba.toNat + 1 ≤ (s.dev d).driver.medium.capacity.toNat := hopen.trans_le h.inside
  have hbytes := Nat.mul_le_mul_right (s.dev d).driver.sectorSize hsector
  rw [Nat.succ_mul] at hbytes
  exact Bool.and_eq_true_iff.mpr ⟨h.present, decide_eq_true hbytes⟩

/-- A sector read that the backend answers goes on behind the window's next sector. -/
theorem Reading.dmaReadSector_eq {c : Command} {d : Slot} {s : State} (h : Reading c d s)
    (hopen : (s.dev d).dma.curLba.toNat < (s.dev d).dma.endLba.toNat) (hok : s.backendAnswer = true) :
    dmaReadSector d s = afterSector d (.sector (s.dev d).sectorBytes) (true, s.afterSectorRead d) := by
  have hwindow : checkWindow d false s = none :=
    checkWindow_eq_none.mpr ⟨c, h.cur, h.isDma, h.device, h.active, h.isRead⟩
  have hread : readDmaSector d s = (true, s.afterSectorRead d) :=
    (if_pos (h.readChecks hopen)).trans (if_pos hok)
  rw [Machine.dmaReadSector, hwindow, hread]

theorem Reading.setReply {c : Command} {d : Slot} {s : State} (h : Reading c d s) (r : Reply) :
    Reading c d (s.setReply r) where
  live := h.live
  cur := h.cur
  isDma := h.isDma
  device := h.device
  active := by simpa using h.active
  isRead := by simpa using h.isRead
  present := by simpa using h.present
  inside := by simpa using h.inside

/-- What a sector read leaves, but for its reply, does not depend on the reply before it. -/
theorem State.setReply_afterSectorRead (s : State) (d : Slot) (r r' : Reply) :
    ((s.setReply r).afterSectorRead d).setReply r' = (s.afterSectorRead d).setReply r' := by
  cases d <;> rfl

/-- Before the last sector a read moves the window on and changes no register and no interrupt (44_dma_engine R376, R381). -/
theorem exec_dmaReadSector_of_more {c : Command} {d : Slot} {s : State} (h : Reading c d s)
    (hmore : (s.dev d).dma.curLba.toNat + 1 < (s.dev d).dma.endLba.toNat) (hok : s.backendAnswer = true) :
    exec (.dmaReadSector d) s = .next ((s.afterSectorRead d).setReply (.sector (s.dev d).sectorBytes)) := by
  have hunfinished : (s.dev d).advance.isDmaFinished = false := by
    rw [← Device.movedBy_zero (s.dev d), Device.advance_movedBy (by omega), Device.movedBy_isDmaFinished (by omega)]
    simpa using hmore.ne
  have heff : dmaReadSector d (s.setReply .none) = (s.afterSectorRead d).setReply (.sector (s.dev d).sectorBytes) := by
    rw [(h.setReply .none).dmaReadSector_eq (by rw [State.setReply_dev]; omega) hok, ← s.setReply_afterSectorRead d .none]
    simp [afterSector, State.afterSectorRead, hunfinished]
  have hirq : ((s.afterSectorRead d).setReply (.sector (s.dev d).sectorBytes)).irq = s.irq := s.afterSectorRead_irq d
  calc exec (.dmaReadSector d) s = atomically (dmaReadSector d) s := rfl
    _ = _ := by rw [atomically_of_irq_eq h.live (by rw [heff, hirq]), heff]

/-- The last sector of the window ends the command in success (44_dma_engine R376, R381; 42_command_engine R259). -/
theorem exec_dmaReadSector_of_last {c : Command} {d : Slot} {s : State} (h : Reading c d s)
    (hlast : (s.dev d).dma.curLba.toNat + 1 = (s.dev d).dma.endLba.toNat) (hok : s.backendAnswer = true) :
    exec (.dmaReadSector d) s = .next
      (((s.afterSectorRead d).setDev d (s.dev d).unarmed).closed c true [] (.sector (s.dev d).sectorBytes)) := by
  have hfinished : (s.dev d).advance.isDmaFinished = true := by
    rw [← Device.movedBy_zero (s.dev d), Device.advance_movedBy (by omega), Device.movedBy_isDmaFinished (by omega)]
    simpa using hlast
  have hcur : ((s.setReply .none).afterSectorRead d).cur = some c := by
    simpa [State.afterSectorRead] using h.cur
  have heff : dmaReadSector d (s.setReply .none) =
      complete c true (((s.afterSectorRead d).setDev d (s.dev d).unarmed).setReply (.sector (s.dev d).sectorBytes)) := by
    rw [(h.setReply .none).dmaReadSector_eq (by rw [State.setReply_dev]; omega) hok]
    simp only [afterSector, State.afterSectorRead, State.setDev_dev_same, State.setReply_dev, hfinished, if_true] at hcur ⊢
    rw [dmaComplete_of_cur hcur, h.device]
    cases d <;> rfl
  calc exec (.dmaReadSector d) s = atomically (dmaReadSector d) s := rfl
    _ = _ := by
      rw [atomically_live h.live, heff, settle_complete]
      rw [State.setDev_irq, State.afterSectorRead_irq]

/-! ### The transfer -/

/-- Sector `j` of the window that the device has open, read by the backend without a failure. -/
def Device.readEvent (D : Device) (d : Slot) (j : Nat) : Event :=
  .backendRead d ((D.dma.curLba.toNat + j) * D.driver.sectorSize) D.driver.sectorSize .ok

/-- From `s` to `t` the device `d` moved `k` sectors to the bus master, each with one answer of the backend and one event. -/
structure SectorsRead (s : State) (d : Slot) (k : Nat) (t : State) : Prop where
  live : t.live
  cur : t.cur = s.cur
  regs : t.regs = s.regs
  intPending : t.intPending = s.intPending
  dev : t.dev d = (s.dev d).movedBy k
  answers : t.answers = s.answers.drop k
  trace : t.trace = s.trace ++ (List.range k).map ((s.dev d).readEvent d)

theorem SectorsRead.zero {s : State} (hl : s.live) (d : Slot) : SectorsRead s d 0 s where
  live := hl
  cur := rfl
  regs := rfl
  intPending := rfl
  dev := (s.dev d).movedBy_zero.symm
  answers := rfl
  trace := by simp

theorem SectorsRead.reading {c : Command} {d : Slot} {k : Nat} {s t : State} (ht : SectorsRead s d k t)
    (h : Reading c d s) : Reading c d t where
  live := ht.live
  cur := ht.cur.trans h.cur
  isDma := h.isDma
  device := h.device
  active := by rw [ht.dev]; exact h.active
  isRead := by rw [ht.dev]; exact h.isRead
  present := by rw [ht.dev]; exact h.present
  inside := by rw [ht.dev]; exact h.inside

/-- The next sector's event. -/
theorem SectorsRead.sectorRead {d : Slot} {k : Nat} {s t : State} (ht : SectorsRead s d k t)
    (hk : (s.dev d).dma.curLba.toNat + k ≤ (s.dev d).dma.endLba.toNat) :
    t.sectorRead d = (s.dev d).readEvent d k := by
  rw [State.sectorRead, ht.dev, Device.sectorAddress, Device.movedBy_curLba hk]
  rfl

/-- One more sector. -/
theorem SectorsRead.succ {d : Slot} {k : Nat} {s t : State} (ht : SectorsRead s d k t)
    (hk : (s.dev d).dma.curLba.toNat + k ≤ (s.dev d).dma.endLba.toNat) (r : Reply) :
    SectorsRead s d (k + 1) ((t.afterSectorRead d).setReply r) where
  live := by simpa [State.live, State.afterSectorRead] using ht.live
  cur := by simpa [State.afterSectorRead] using ht.cur
  regs := by simpa [State.afterSectorRead] using ht.regs
  intPending := by simpa [State.afterSectorRead] using ht.intPending
  dev := by simp [State.afterSectorRead, ht.dev, Device.advance_movedBy hk]
  answers := by simp [State.afterSectorRead, ht.answers]
  trace := by simp [State.afterSectorRead, ht.trace, ht.sectorRead hk, List.range_succ]

/-- While the supplied answers have a success left, the backend answers so. -/
theorem SectorsRead.backendAnswer {d : Slot} {k left : Nat} {more : List Bool} {s t : State} (ht : SectorsRead s d k t)
    (hans : s.answers = List.replicate left true ++ more) (hk : k < left) : t.backendAnswer = true := by
  obtain ⟨m, rfl⟩ := Nat.exists_eq_add_of_lt hk
  have hnext : t.answers = true :: (List.replicate m true ++ more) := by
    have hrest : k + m + 1 - k = m + 1 := by omega
    rw [ht.answers, hans, List.drop_append_of_le_length (by simp; omega), List.drop_replicate, hrest]
    rfl
  rw [State.backendAnswer, hnext]

/-- Fewer reads than the window has sectors leave the command open (44_dma_engine R386). -/
theorem execAll_dmaReadSector {c : Command} {d : Slot} {left : Nat} {more : List Bool} {s : State} (h : Reading c d s)
    (hleft : (s.dev d).dma.curLba.toNat + left = (s.dev d).dma.endLba.toNat)
    (hans : s.answers = List.replicate left true ++ more) {k : Nat} (hk : k < left) :
    ∃ t, execAll (List.replicate k (.dmaReadSector d)) s = some t ∧ SectorsRead s d k t := by
  induction k with
  | zero => exact ⟨s, rfl, .zero h.live d⟩
  | succ k ih =>
    obtain ⟨t, hrun, ht⟩ := ih (by omega)
    have hmore : (t.dev d).dma.curLba.toNat + 1 < (t.dev d).dma.endLba.toNat := by
      rw [ht.dev, Device.movedBy_curLba (by omega)]
      change _ < (s.dev d).dma.endLba.toNat
      omega
    have hexec := exec_dmaReadSector_of_more (ht.reading h) hmore (ht.backendAnswer hans (by omega))
    rw [List.replicate_succ']
    exact ⟨_, execAll_concat hrun hexec, ht.succ (by omega) _⟩

/-- As many reads as the window has sectors end the command, when all of them have moved (44_dma_engine R386, R387). -/
theorem execAll_dmaReadSector_all {c : Command} {d : Slot} {left : Nat} {more : List Bool} {s : State}
    (h : Reading c d s) (hleft : (s.dev d).dma.curLba.toNat + left = (s.dev d).dma.endLba.toNat) (hpos : 0 < left)
    (hans : s.answers = List.replicate left true ++ more) :
    ∃ u r, SectorsRead s d left u ∧
      execAll (List.replicate left (.dmaReadSector d)) s = some ((u.setDev d (s.dev d).unarmed).closed c true [] r) := by
  obtain ⟨k, rfl⟩ : ∃ k, left = k + 1 := Nat.exists_eq_succ_of_ne_zero hpos.ne'
  obtain ⟨t, hrun, ht⟩ := execAll_dmaReadSector h hleft hans (Nat.lt_succ_self k)
  have hlast : (t.dev d).dma.curLba.toNat + 1 = (t.dev d).dma.endLba.toNat := by
    rw [ht.dev, Device.movedBy_curLba (by omega)]
    exact hleft
  have hexec := exec_dmaReadSector_of_last (ht.reading h) hlast (ht.backendAnswer hans (Nat.lt_succ_self k))
  refine ⟨(t.afterSectorRead d).setReply .none, .sector (t.dev d).sectorBytes, ht.succ (by omega) .none, ?_⟩
  rw [List.replicate_succ', execAll_concat hrun hexec, ht.dev]
  cases d <;> rfl

@[simp] theorem State.closed_dev (s : State) (c : Command) (ok : Bool) (notes : List Event) (r : Reply) (d : Slot) :
    (s.closed c ok notes r).dev d = s.dev d := by
  cases d <;> rfl

/-- Settles O53: the reads before the last by induction, and then the read of the last sector. -/
theorem aReadTransferTakesExactlyItsSectors : Obligations.AReadTransferTakesExactlyItsSectors := by
  intro s c d more hl hc hp hd D n lba left hactive hread hpos hpresent hinside hans
  have h : Reading c d s := ⟨hl, hc, hp, hd, hactive, hread, hpresent, hinside⟩
  have hleft : (s.dev d).dma.curLba.toNat + left = (s.dev d).dma.endLba.toNat :=
    Nat.add_sub_of_le (Nat.sub_pos_iff_lt.mp hpos).le
  refine ⟨fun k hk => ?before, ?last⟩
  case before =>
    obtain ⟨t, hrun, ht⟩ := execAll_dmaReadSector h hleft hans hk
    refine ⟨t, hrun, ht.cur.trans hc, ht.regs, ht.intPending, ht.dev, ?_, ht.trace⟩
    rw [ht.dev, Device.movedBy_isDmaFinished (by omega), decide_eq_false_iff_not]
    omega
  case last =>
    obtain ⟨u, r, hu, hrun⟩ := execAll_dmaReadSector_all h hleft hpos hans
    have hdev : (((u.setDev d D.unarmed).closed c true [] r).dev d) = D.unarmed := by
      rw [State.closed_dev, State.setDev_dev_same]
    refine ⟨_, hrun, rfl, ?regs, rfl, hdev, ?finished, ?answers, ?trace⟩
    case regs => simp [State.closed, hu.regs]
    case finished =>
      rw [hdev]
      rfl
    case answers => simp [State.closed, hu.answers, hans]
    case trace =>
      have hirq : (u.setDev d (s.dev d).unarmed).irq = s.irq := by
        rw [State.setDev_irq, State.irq, hu.regs, hu.intPending, State.irq]
      have hline : (u.setDev d (s.dev d).unarmed).unmasked = s.unmasked := by
        rw [State.unmasked, State.setDev_regs, hu.regs, State.unmasked]
      rw [State.closed, hirq, hline, State.setDev_trace, hu.trace, List.append_nil, hd]
      rfl

end Sys2Proof.Machine
end

section
/-! PROOFS. The admitted commands with no DMA window, and PACKET (43_ata_commands R300 to R325, R340): what a Command
write of each byte leaves on an idle channel. -/

namespace Sys2Proof.Machine

/-! ### A command that starts, and its end -/

/-- The command object of a Command write, by the registers (42_command_engine R250; 30_encoding R102, R116). -/
theorem newCommand_eq (v : Byte) (proto : Proto) (s : State) :
    newCommand v proto s =
      { opcode := v, proto := proto, phase := .executing, d := s.selected, feat := s.regs.features } := by
  rw [newCommand, commandWord_dev, commandWord_feat]
  rfl

@[simp] theorem newCommand_feat (v : Byte) (proto : Proto) (s : State) : (newCommand v proto s).feat = s.regs.features :=
  commandWord_feat s.regs

/-- The state that a command's handler starts from: the byte latched, the interrupt acknowledged, the start in the trace
(42_command_engine R250). -/
def State.started (s : State) (v : Byte) : State := (s.latched v).withTrace (s.trace ++ [.cmdStart v s.selected])

@[simp] theorem State.started_regs (s : State) (v : Byte) : (s.started v).regs = { s.regs with command := v } := rfl

@[simp] theorem State.started_dev (s : State) (v : Byte) (d : Slot) : (s.started v).dev d = s.dev d := by
  simp [State.started]

@[simp] theorem State.setDev_selected (s : State) (d : Slot) (D : Device) : (s.setDev d D).selected = s.selected := by
  simp [State.selected]

@[simp] theorem newCommand_setDev (v : Byte) (proto : Proto) (s : State) (d : Slot) (D : Device) :
    newCommand v proto (s.setDev d D) = newCommand v proto s := by
  simp [newCommand]

theorem State.started_setDev (s : State) (v : Byte) (d : Slot) (D : Device) :
    (s.started v).setDev d D = (s.setDev d D).started v := by
  cases d <;> rfl

theorem settle_setDev (after before : State) (d : Slot) (D : Device) :
    after.settle (before.setDev d D) = after.settle before := by
  rw [settle_eq, settle_eq, State.setDev_irq]

/-- A Command write of an admitted byte runs its handler on the started state (41_register_access R215). -/
theorem commandWrite_startCommand {s : State} (h : s.idle) (v : Byte) (proto : Proto)
    (execute : Command → State → State) :
    commandWrite v (startCommand v proto execute) s
      = .next ((execute (newCommand v proto s) (s.started v)).settle s) := by
  have hwrite : commandWrite v (startCommand v proto execute) s
      = .next ((startCommand v proto execute (s.latched v)).settle s) := commandWrite_idle h
  rw [hwrite, startCommand, newCommand_latched, newCommand_d]
  rfl

/-- A command that ends in the step of its start (42_command_engine R257). -/
theorem settle_complete_started {s : State} (hc : s.cur = none) (v : Byte) (proto : Proto) (ok : Bool) :
    (complete (newCommand v proto s) ok (s.started v)).settle s = s.ended v s.selected ok [] := by
  have hend := settle_complete_latched hc (newCommand v proto s) ok []
  rwa [List.append_nil, newCommand_d] at hend

/-- A command that ends in the step of its start, after a diagnostic (60_exceptions R540). -/
theorem settle_complete_diag {s : State} (hc : s.cur = none) (v : Byte) (proto : Proto) (ok : Bool) (m : Diagnostic) :
    (complete (newCommand v proto s) ok ((s.started v).diag m)).settle s = s.ended v s.selected ok [.diag m] := by
  have hend := settle_complete_latched hc (newCommand v proto s) ok [.diag m]
  rwa [newCommand_d] at hend

/-- A command that ends in the step of its start, after a change of a device. -/
theorem settle_complete_setDev {s : State} (hc : s.cur = none) (v : Byte) (proto : Proto) (ok : Bool) (d : Slot)
    (D : Device) :
    (complete (newCommand v proto s) ok ((s.started v).setDev d D)).settle s
      = (s.setDev d D).ended v s.selected ok [] := by
  have hend := settle_complete_started (s := s.setDev d D) (by simpa using hc) v proto ok
  rwa [newCommand_setDev, State.setDev_selected, settle_setDev, ← State.started_setDev] at hend

/-- A command that opens its data phase in the step of its start (42_command_engine R255). -/
theorem settle_enterDataPhase_started (s : State) (v : Byte) (proto : Proto) (int : Bool) :
    (enterDataPhase (newCommand v proto s) int (s.started v)).settle s = s.opened v proto s.selected int := by
  rw [newCommand_eq, settle_eq_withTrace]
  cases int <;> rfl

/-- A command that opens its data phase in the step of its start, after a change of a device. -/
theorem settle_enterDataPhase_setDev (s : State) (v : Byte) (proto : Proto) (int : Bool) (d : Slot) (D : Device) :
    (enterDataPhase (newCommand v proto s) int ((s.started v).setDev d D)).settle s
      = (s.setDev d D).opened v proto s.selected int := by
  have hopen := settle_enterDataPhase_started (s.setDev d D) v proto int
  rwa [newCommand_setDev, State.setDev_selected, settle_setDev, ← State.started_setDev] at hopen

/-! ### IDENTIFY -/

/-- What an identify command leaves, by its record (43_ata_commands R300, R305). -/
theorem settle_identifyWith {s : State} (hc : s.cur = none) (v : Byte) (record : Option Block) :
    (identifyWith (newCommand v .pioIn s) record (s.started v)).settle s =
      match record with
      | none => s.ended v s.selected false []
      | some r =>
        (s.setDev s.selected { s.dev s.selected with pioBuf := r, pioCursor := 0 }).opened v .pioIn s.selected true := by
  cases record with
  | none => exact settle_complete_started hc v .pioIn false
  | some r =>
    rw [identifyWith, newCommand_d, State.started_dev]
    exact settle_enterDataPhase_setDev s v .pioIn true s.selected _

/-- Settles O40: the handler asks the driver for the record of the selected device, and the record decides. -/
theorem identifyCommands : Obligations.IdentifyCommands := by
  intro s h d D key p hp
  have hdevice : exec .identifyDevice s = _ := commandWrite_startCommand h 0xEC .pioIn identifyDevice
  have hpacket : exec .identifyPacketDevice s = _ := commandWrite_startCommand h 0xA1 .pioIn identifyPacketDevice
  obtain ⟨-, -, hc⟩ := h
  rw [identifyDevice, newCommand_d, State.started_dev, settle_identifyWith hc] at hdevice
  rw [identifyPacketDevice, newCommand_d, State.started_dev, settle_identifyWith hc] at hpacket
  simp only [List.mem_cons, List.not_mem_nil, or_false] at hp
  obtain rfl | rfl := hp
  · exact hdevice
  · exact hpacket

/-! ### INITIALIZE DEVICE PARAMETERS -/

/-- The head count of INITIALIZE DEVICE PARAMETERS, by Device/Head (30_encoding R114). -/
theorem commandWord_heads (r : Regs) : r.commandWord.heads = r.devHead.toNat % 16 + 1 :=
  congrArg (· + 1) (commandWord_hs_toNat r)

/-- The sectors per track of INITIALIZE DEVICE PARAMETERS, by Sector Count (30_encoding R114). -/
theorem commandWord_spt (r : Regs) : r.commandWord.spt = r.sectorCount.toNat :=
  congrArg BitVec.toNat (commandWord_sc r)

/-- The device takes the geometry: it has a sector per track and the driver accepts it (43_ata_commands R315). -/
def Device.TakesGeometry (D : Device) (g : Geometry) : Prop := g.spt ≠ 0 ∧ D.driver.setParamsOk g.heads g.spt = true

/-- The geometry that the registers name (30_encoding R114). -/
def Regs.geometry (r : Regs) : Geometry := { heads := r.devHead.toNat % 16 + 1, spt := r.sectorCount.toNat }

theorem initializeStep_of_takes {c : Command} {s : State} (h : (s.dev c.d).TakesGeometry s.regs.geometry) :
    initializeStep c s = (true, s.setDev c.d { s.dev c.d with geometry := some s.regs.geometry }) := by
  obtain ⟨hspt, hok⟩ := h
  rw [initializeStep, commandWord_heads, commandWord_spt]
  exact (if_neg hspt).trans (if_pos hok)

theorem initializeStep_of_not_takes {c : Command} {s : State} (h : ¬(s.dev c.d).TakesGeometry s.regs.geometry) :
    initializeStep c s = (false, s) := by
  rw [initializeStep, commandWord_heads, commandWord_spt]
  by_cases hspt : s.regs.sectorCount.toNat = 0
  · exact if_pos hspt
  · exact (if_neg hspt).trans (if_neg fun hok => h ⟨hspt, hok⟩)

/-- Settles O41: the device takes the geometry of the registers, or the command fails. -/
theorem initializeDeviceParametersResult : Obligations.InitializeDeviceParametersResult := by
  intro s h d D heads spt
  have hexec : exec .initializeDeviceParameters s = _ :=
    commandWrite_startCommand h 0x91 .nonData initializeDeviceParameters
  obtain ⟨-, -, hc⟩ := h
  have hdev : (s.started 0x91).dev (newCommand 0x91 .nonData s).d = D := by
    rw [newCommand_d, State.started_dev]
  rw [hexec, initializeDeviceParameters]
  by_cases hok : spt ≠ 0 ∧ D.driver.setParamsOk heads spt = true
  · rw [if_pos hok, initializeStep_of_takes (hdev ▸ hok), hdev, newCommand_d]
    exact congrArg _ (settle_complete_setDev hc 0x91 .nonData true d _)
  · rw [if_neg hok, initializeStep_of_not_takes (hdev ▸ hok)]
    exact congrArg _ (settle_complete_started hc 0x91 .nonData false)

/-! ### SET FEATURES -/

/-- The device with a transfer mode selected, where it accepts the mode (43_ata_commands R320). -/
def Device.selectMode (D : Device) : TransferMode → Option Device
  | .pio m => if D.acceptsPio m then some { D with pioMode := m } else none
  | .dma k m => if D.acceptsDma k m then some { D with dmaMode := some (k, m) } else none
  | .invalid => none

/-- No mode is accepted behind a Null driver (40_driver_capability R166; log 24). -/
theorem Device.selectMode_of_null {D : Device} (h : D.driver.kind = .null) (mode : TransferMode) :
    D.selectMode mode = none := by
  cases mode with
  | pio m => exact if_neg fun hacc => (acceptsPio_iff.mp hacc).1 h
  | dma k m => exact if_neg fun hacc => (acceptsDma_iff.mp hacc).1 h
  | invalid => rfl

/-- A PIO mode is accepted when it is mode 0 or in the slot's set (43_ata_commands R320). -/
theorem Device.selectMode_pio {D : Device} (h : D.driver.kind ≠ .null) (m : BitVec 3) :
    D.selectMode (.pio m) =
      if m = 0 ∨ D.modes.pio.getLsbD m.toNat = true then some { D with pioMode := m } else none := by
  refine if_congr ?_ rfl rfl
  rw [acceptsPio_iff, and_iff_right h, ModeSets.acceptsPio, Bool.or_eq_true, decide_eq_true_iff]

/-- A DMA mode is accepted when it is in the slot's set of its kind (43_ata_commands R320). -/
theorem Device.selectMode_dma {D : Device} (h : D.driver.kind ≠ .null) (k : DmaKind) (m : BitVec 3) :
    D.selectMode (.dma k m) = if D.modes.acceptsDma k m = true then some { D with dmaMode := some (k, m) } else none :=
  if_congr (acceptsDma_iff.trans (and_iff_right h)) rfl rfl

/-- SET FEATURES with any subcode but that of the transfer modes (43_ata_commands R320). -/
theorem setFeaturesStep_of_subcode {c : Command} (s : State) (hf : c.feat ≠ 0x03) :
    setFeaturesStep c s = (false, s.diag .unsupportedSubcode) :=
  if_neg hf

/-- SET FEATURES with the subcode of the transfer modes, by the selection (43_ata_commands R320). -/
theorem setFeaturesStep_of_selectMode {c : Command} (s : State) (hf : c.feat = 0x03) :
    setFeaturesStep c s =
      ((s.dev c.d).selectMode (decodeMode s.regs.sectorCount)).elim (false, s.diag .modeOutOfRange)
        fun D => (true, s.setDev c.d D) := by
  unfold setFeaturesStep
  rw [if_pos hf, commandWord_sc]
  cases decodeMode s.regs.sectorCount with
  | pio m =>
    rw [Device.selectMode, apply_ite (Option.elim · _ _)]
    rfl
  | dma k m =>
    rw [Device.selectMode, apply_ite (Option.elim · _ _)]
    rfl
  | invalid => rfl

/-- What SET FEATURES leaves, by the selection (43_ata_commands R320). -/
theorem settle_setFeatures {s : State} (hc : s.cur = none) (hf : s.regs.features = 0x03) :
    (setFeatures (newCommand 0xEF .nonData s) (s.started 0xEF)).settle s =
      ((s.dev s.selected).selectMode (decodeMode s.regs.sectorCount)).elim
        (s.ended 0xEF s.selected false [.diag .modeOutOfRange])
        fun D => (s.setDev s.selected D).ended 0xEF s.selected true [] := by
  have hfeat : (newCommand 0xEF .nonData s).feat = 0x03 := (newCommand_feat 0xEF .nonData s).trans hf
  rw [setFeatures, setFeaturesStep_of_selectMode _ hfeat, newCommand_d, State.started_dev, State.started_regs]
  cases (s.dev s.selected).selectMode (decodeMode s.regs.sectorCount) with
  | none => exact settle_complete_diag hc 0xEF .nonData false .modeOutOfRange
  | some D => exact settle_complete_setDev hc 0xEF .nonData true s.selected D

/-- Settles O42: the subcode, the driver's kind and the slot's mode sets decide in turn. -/
theorem setFeaturesResult : Obligations.SetFeaturesResult := by
  intro s h d D fails
  have hexec : exec .setFeatures s = _ := commandWrite_startCommand h 0xEF .nonData setFeatures
  obtain ⟨-, -, hc⟩ := h
  rw [hexec]
  by_cases hf : s.regs.features = 0x03
  · rw [if_neg (not_not_intro hf), settle_setFeatures hc hf]
    by_cases hnull : D.driver.kind = .null
    · rw [if_pos hnull, Device.selectMode_of_null hnull]
      rfl
    · rw [if_neg hnull]
      cases decodeMode s.regs.sectorCount with
      | pio m =>
        rw [Device.selectMode_pio hnull, apply_ite (Option.elim · _ _)]
        rfl
      | dma k m =>
        rw [Device.selectMode_dma hnull, apply_ite (Option.elim · _ _)]
        cases k <;> rfl
      | invalid => rfl
  · have hfeat : (newCommand 0xEF .nonData s).feat ≠ 0x03 :=
      (newCommand_feat 0xEF .nonData s).trans_ne hf
    rw [if_pos hf, setFeatures, setFeaturesStep_of_subcode _ hfeat]
    exact congrArg _ (settle_complete_diag hc 0xEF .nonData false .unsupportedSubcode)

/-! ### SECURITY UNLOCK and PACKET -/

/-- Settles O43: the handler sets the cursor of the selected device to 0 and opens the data phase. -/
theorem securityUnlockEntry : Obligations.SecurityUnlockEntry := by
  intro s h
  have hexec : exec .securityUnlock s = _ := commandWrite_startCommand h 0xF2 .pioOut securityUnlock
  rw [hexec, securityUnlock, newCommand_d, State.started_dev]
  exact congrArg _ (settle_enterDataPhase_setDev s 0xF2 .pioOut false s.selected _)

/-- Settles O46: PACKET is refused in the latched state. -/
theorem packetIsRefused : Obligations.PacketIsRefused := by
  intro s h
  have hexec : exec .packet s = .next ((packet (s.latched 0xA0)).settle s) := commandWrite_idle h
  rw [hexec, packet, settle_refuse_latched]

end Sys2Proof.Machine
end

section
/-! PROOFS. READ DMA and WRITE DMA (43_ata_commands R330, R335): which registers name a range that the device can move, and what
the Command write leaves (44_dma_engine R371, R372). -/

namespace Sys2Proof

/-- The window of `count` sectors from `start` on, with none of them moved (44_dma_engine R371). -/
def DmaWindow.fresh (start count : Nat) (isWrite : Bool) : DmaWindow :=
  { startLba := BitVec.ofNat 32 start, endLba := BitVec.ofNat 32 (start + count)
    curLba := BitVec.ofNat 32 start, isWrite := isWrite }

/-- Every LBA of a range is user accessible (44_dma_engine R371). -/
theorem Driver.rangeAccessible_iff {drv : Driver} {start count : Nat} :
    drv.rangeAccessible start count = true ↔ ∀ a, start ≤ a → a < start + count → drv.userAccessible a = true := by
  simp only [Driver.rangeAccessible, List.all_eq_true, List.mem_range]
  constructor
  · intro h a hlow hhigh
    simpa [Nat.add_sub_of_le hlow] using h (a - start) (by omega)
  · exact fun h i hi => h (start + i) (by omega) (by omega)

end Sys2Proof

namespace Sys2Proof.Machine

/-! ### The range that the registers name -/

/-- The LBA `start` is the one that the registers name on a device with this geometry: by its bits in LBA mode, else by a valid
CHS address (30_encoding R110, R111, R113; 45_pio_and_addressing R430, R432). -/
def Regs.NamesStart (r : Regs) (geometry : Option Geometry) (start : Nat) : Prop :=
  let head := r.devHead.toNat % 16
  let cyl := r.cylHigh.toNat * 2 ^ 8 + r.cylLow.toNat
  let sec := r.sectorNumber.toNat
  if r.devHead.getLsbD 6 then
    start = head * 2 ^ 24 + r.cylHigh.toNat * 2 ^ 16 + r.cylLow.toNat * 2 ^ 8 + r.sectorNumber.toNat
  else ∃ g, geometry = some g ∧ head < g.heads ∧ 1 ≤ sec ∧ sec ≤ g.spt
    ∧ start = (cyl * g.heads + head) * g.spt + (sec - 1)

/-- The number of sectors that the registers name (30_encoding R112). -/
def Regs.sectors (r : Regs) : Nat := if r.sectorCount.toNat = 0 then 256 else r.sectorCount.toNat

/-- The device can move the sectors that the registers name, from `start` on (44_dma_engine R371). -/
def Device.CanMove (D : Device) (r : Regs) (start : Nat) : Prop :=
  D.driver.medium.present = true ∧ r.NamesStart D.geometry start
    ∧ start + r.sectors ≤ D.driver.medium.capacity.toNat
    ∧ ∀ a, start ≤ a → a < start + r.sectors → D.driver.userAccessible a = true

theorem commandWord_startLba {r : Regs} {geometry : Option Geometry} {start : Nat} :
    r.commandWord.startLba geometry = some start ↔ r.NamesStart geometry start := by
  rw [CommandWord.startLba_eq_some, commandWord_lbaMode, commandWord_lba28_toNat, commandWord_hs_toNat,
    commandWord_cyl_toNat, commandWord_sn, Regs.NamesStart]
  cases r.devHead.getLsbD 6 with
  | true => simp
  | false => simp [chsValid_iff, chsToLba, and_assoc]

/-- A window is armed exactly on a range that the device can move. -/
theorem armedWindow_commandWord {D : Device} {r : Regs} {isWrite : Bool} {win : DmaWindow} :
    D.armedWindow r.commandWord isWrite = some win ↔
      ∃ start, D.CanMove r start ∧ win = .fresh start r.sectors isWrite := by
  have hcount : r.commandWord.count = r.sectors := commandWord_count r
  simp only [armedWindow_eq_some, commandWord_startLba, hcount, Driver.rangeAccessible_iff, Device.CanMove, DmaWindow.fresh,
    and_assoc, exists_and_left]

theorem armedWindow_eq_none_of_not_canMove {D : Device} {r : Regs} (h : ¬∃ start, D.CanMove r start) (isWrite : Bool) :
    D.armedWindow r.commandWord isWrite = none := by
  rw [Option.eq_none_iff_forall_ne_some]
  intro win hwin
  obtain ⟨start, hmove, -⟩ := armedWindow_commandWord.mp hwin
  exact h ⟨start, hmove⟩

/-! ### The commands -/

/-- On a range that the device can move the window is armed and the data phase opens without an interrupt
(44_dma_engine R371, R372). -/
theorem settle_dmaCommand_of_canMove {s : State} {start : Nat} (h : (s.dev s.selected).CanMove s.regs start) (v : Byte)
    (isWrite : Bool) :
    (dmaCommand isWrite (newCommand v .dma s) (s.started v)).settle s =
      (s.setDev s.selected ((s.dev s.selected).arm (.fresh start s.regs.sectors isWrite))).opened
        v .dma s.selected false := by
  have harmed : (s.dev s.selected).armedWindow (s.started v).regs.commandWord isWrite
      = some (.fresh start s.regs.sectors isWrite) := armedWindow_commandWord.mpr ⟨start, h, rfl⟩
  rw [dmaCommand, newCommand_d, State.started_dev, harmed]
  exact settle_enterDataPhase_setDev s v .dma false s.selected _

/-- Anywhere else the command fails and writes nothing else (44_dma_engine R371). -/
theorem settle_dmaCommand_of_not_canMove {s : State} (hc : s.cur = none)
    (h : ¬∃ start, (s.dev s.selected).CanMove s.regs start) (v : Byte) (isWrite : Bool) :
    (dmaCommand isWrite (newCommand v .dma s) (s.started v)).settle s = s.ended v s.selected false [] := by
  have hnone : (s.dev s.selected).armedWindow (s.started v).regs.commandWord isWrite = none :=
    armedWindow_eq_none_of_not_canMove (r := (s.started v).regs) h isWrite
  rw [dmaCommand, newCommand_d, State.started_dev, hnone]
  exact settle_complete_started hc v .dma false

/-- Settles O44: both commands arm the window of a range that the device can move, or fail. -/
theorem dmaCommands : Obligations.DmaCommands := by
  intro s h d D head cyl sec count names fits p hp
  have hread : exec .readDma s = .next ((dmaCommand false (newCommand 0xC8 .dma s) (s.started 0xC8)).settle s) :=
    commandWrite_startCommand h 0xC8 .dma readDma
  have hwrite : exec .writeDma s = .next ((dmaCommand true (newCommand 0xCA .dma s) (s.started 0xCA)).settle s) :=
    commandWrite_startCommand h 0xCA .dma writeDma
  obtain ⟨-, -, hc⟩ := h
  have hexec : exec p.1 s = .next ((dmaCommand p.2.2 (newCommand p.2.1 .dma s) (s.started p.2.1)).settle s) := by
    simp only [List.mem_cons, List.not_mem_nil, or_false] at hp
    obtain rfl | rfl := hp
    · exact hread
    · exact hwrite
  rw [hexec]
  exact ⟨fun start hfits => congrArg _ (settle_dmaCommand_of_canMove hfits p.2.1 p.2.2),
    fun hnone => congrArg _ (settle_dmaCommand_of_not_canMove hc hnone p.2.1 p.2.2)⟩

end Sys2Proof.Machine
end

section
/-! PROOFS. The bus master's operations, one at a time: the window check, the end of the command's window, a sector read, a sector
write, the abort and the query (44_dma_engine R374 to R378, R381 to R385). -/

namespace Sys2Proof.Machine

/-! ### The window check -/

/-- A window of the current DMA command is armed on the device (44_dma_engine R384). -/
def State.Armed (s : State) (d : Slot) : Prop :=
  ∃ c, s.cur = some c ∧ c.proto = .dma ∧ c.d = d ∧ (s.dev d).transferActive = true

theorem checkWindow_setReply (d : Slot) (isWrite : Bool) (s : State) (r : Reply) :
    checkWindow d isWrite (s.setReply r) = checkWindow d isWrite s := by
  cases d <;> rfl

theorem checkWindow_of_not_armed {d : Slot} {s : State} (h : ¬s.Armed d) (isWrite : Bool) :
    checkWindow d isWrite s = some .dmaNoActiveWindow := by
  unfold checkWindow
  split
  · rfl
  · rename_i c hopen
    obtain ⟨hc, hdma⟩ := openPhase_eq_some.mp hopen
    exact if_neg fun ⟨hd, hact⟩ => h ⟨c, hc, hdma, hd, hact⟩

theorem checkWindow_of_direction {d : Slot} {s : State} (h : s.Armed d) {isWrite : Bool}
    (hdir : (s.dev d).dma.isWrite ≠ isWrite) : checkWindow d isWrite s = some .dmaDirectionMismatch := by
  obtain ⟨c, hc, hdma, hd, hact⟩ := h
  rw [checkWindow, openPhase_eq_some.mpr ⟨hc, hdma⟩]
  exact (if_pos ⟨hd, hact⟩).trans (if_neg hdir)

theorem exec_dmaReadSector_of_fault {d : Slot} {s : State} {r : FaultReason} (hl : s.live)
    (h : checkWindow d false s = some r) :
    exec (.dmaReadSector d) s = .next { s with fault := some r, reply := .none } :=
  atomically_of_fault (f := dmaReadSector d) hl (by rw [dmaReadSector, checkWindow_setReply, h])

theorem exec_dmaWriteSector_of_fault {d : Slot} {s : State} {r : FaultReason} (hl : s.live)
    (h : checkWindow d true s = some r) (buf : List Byte) :
    exec (.dmaWriteSector d buf) s = .next { s with fault := some r, reply := .none } :=
  atomically_of_fault (f := dmaWriteSector d buf) hl (by rw [dmaWriteSector, checkWindow_setReply, h])

/-- Settles O50, by the three answers of the window check. -/
theorem dmaSectorFaults : Obligations.DmaSectorFaults := by
  intro s d buf hl armed
  refine ⟨fun h => ⟨?_, ?_⟩, fun h hw => ?_, fun h hr => ?_⟩
  · exact exec_dmaReadSector_of_fault hl (checkWindow_of_not_armed h false)
  · exact exec_dmaWriteSector_of_fault hl (checkWindow_of_not_armed h true) buf
  · exact exec_dmaReadSector_of_fault hl (checkWindow_of_direction h (by simp [hw]))
  · exact exec_dmaWriteSector_of_fault hl (checkWindow_of_direction h (by simp [hr])) buf

/-! ### The query -/

theorem Device.isDmaFinished_eq (D : Device) :
    D.isDmaFinished = decide (D.dma.curLba.toNat = D.dma.endLba.toNat) :=
  decide_eq_decide.mpr BitVec.toNat_inj.symm

/-- Settles O52: the query only sets the reply. -/
theorem dmaQueryResult : Obligations.DmaQueryResult := by
  intro s d o hl
  refine ⟨rfl, ?_⟩
  have hquery : exec (.dmaQuery d) s = .next (dmaQuery d (s.setReply .none)) := atomically_of_irq_eq hl rfl
  rw [hquery, dmaQuery, State.setReply_dev, Device.isDmaFinished_eq]
  rfl

/-! ### The end of the command's window -/

/-- The last event of a step that ends a command, as one of its notes. -/
theorem State.closed_emit (s : State) (e : Event) (c : Command) (ok : Bool) (r : Reply) :
    (s.emit e).closed c ok [] r = s.closed c ok [e] r := by
  rw [State.closed, List.append_nil]
  rfl

/-- The state `u` after an event and a change of one device. -/
def State.moved (u : State) (d : Slot) (D : Device) (e : Event) : State := (u.setDev d D).emit e

@[simp] theorem State.moved_dev (u : State) (d : Slot) (D : Device) (e : Event) : (u.moved d D e).dev d = D := by
  cases d <;> rfl

/-- The end of the current command's window and of the command, from the state that a sector transfer left, and the edge
that its one interrupt calls for (42_command_engine R257, R259; 44_dma_engine R378). -/
theorem settle_dmaComplete_moved {s u : State} {c : Command} (hc : u.cur = some c) (hirq : u.irq = s.irq) (ok : Bool)
    (D : Device) (e : Event) (r : Reply) :
    ((dmaComplete ok ((u.setReply .none).moved c.d D e)).setReply r).settle s
      = (u.setDev c.d D.unarmed).closed c ok [e] r := by
  have hcur : ((u.setReply .none).moved c.d D e).cur = some c := by simpa [State.moved] using hc
  have hended : (dmaComplete ok ((u.setReply .none).moved c.d D e)).setReply r
      = complete c ok (((u.setDev c.d D.unarmed).emit e).setReply r) := by
    rw [dmaComplete_of_cur hcur, State.moved_dev]
    cases c with
    | mk opcode proto phase d feat => cases d <;> rfl
  have hline : ((u.setDev c.d D.unarmed).emit e).irq = s.irq := (State.setDev_irq u c.d _).trans hirq
  rw [hended, settle_complete hline, State.closed_emit]

/-! ### The abort -/

/-- An abort of this device's command ends it as a failure (44_dma_engine R383). -/
theorem exec_dmaAbort_of_current {s : State} {c : Command} (hl : s.live) (hc : s.cur = some c) (hdma : c.proto = .dma) :
    exec (.dmaAbort c.d) s
      = .next ((s.setDev c.d (s.dev c.d).unarmed).closed c false [.diag .dmaAborted] .none) := by
  have hopen : (s.setReply .none).openPhase .dma = some c := openPhase_eq_some.mpr ⟨hc, hdma⟩
  have heff : dmaAbort c.d (s.setReply .none)
      = complete c false (((s.setDev c.d (s.dev c.d).unarmed).emit (.diag .dmaAborted)).setReply .none) := by
    rw [dmaAbort, hopen]
    dsimp only
    rw [if_pos rfl, dmaComplete_of_cur (s := (s.setReply .none).diag .dmaAborted) hc]
    cases c with
    | mk opcode proto phase d feat => cases d <;> rfl
  have hline : ((s.setDev c.d (s.dev c.d).unarmed).emit (.diag .dmaAborted)).irq = s.irq := State.setDev_irq s c.d _
  calc exec (.dmaAbort c.d) s = atomically (dmaAbort c.d) s := rfl
    _ = _ := by rw [atomically_live hl, heff, settle_complete hline, State.closed_emit]

/-- Anywhere else an abort is a diagnostic (44_dma_engine R383). -/
theorem exec_dmaAbort_of_not_current {s : State} {d : Slot} (hl : s.live)
    (h : ¬∃ c, s.cur = some c ∧ c.proto = .dma ∧ c.d = d) :
    exec (.dmaAbort d) s = .next { s with reply := .none, trace := s.trace ++ [.diag .dmaAbortNoWindow] } := by
  have heff : dmaAbort d (s.setReply .none) = (s.setReply .none).diag .dmaAbortNoWindow := by
    unfold dmaAbort
    split
    · rfl
    · rename_i c hopen
      obtain ⟨hc, hdma⟩ := openPhase_eq_some.mp hopen
      exact if_neg fun hd => h ⟨c, hc, hdma, hd⟩
  calc exec (.dmaAbort d) s = atomically (dmaAbort d) s := rfl
    _ = _ := by
      rw [atomically_of_irq_eq hl (by rw [heff]; rfl), heff]
      rfl

/-- Settles O51: the command in flight is this device's DMA command, or it is not. -/
theorem dmaAbortResult : Obligations.DmaAbortResult := by
  refine fun s d o hl => ⟨rfl, fun c hc hdma hd => ?_, exec_dmaAbort_of_not_current hl⟩
  subst hd
  exact exec_dmaAbort_of_current hl hc hdma

/-! ### A sector of an open window -/

/-- The command `c` moves the window of its device in the direction `isWrite`, and a sector is left to move
(44_dma_engine R372, R384). -/
structure Moving (c : Command) (isWrite : Bool) (s : State) : Prop where
  live : s.live
  cur : s.cur = some c
  isDma : c.proto = .dma
  active : (s.dev c.d).transferActive = true
  direction : (s.dev c.d).dma.isWrite = isWrite
  isOpen : (s.dev c.d).dma.curLba.toNat < (s.dev c.d).dma.endLba.toNat

theorem Moving.checkWindow {c : Command} {isWrite : Bool} {s : State} (h : Moving c isWrite s) :
    checkWindow c.d isWrite s = none :=
  checkWindow_eq_none.mpr ⟨c, h.cur, h.isDma, rfl, h.active, h.direction⟩

/-- A window with a sector left is finished behind its last sector (44_dma_engine R376, R377). -/
theorem Device.advance_isDmaFinished {D : Device} (h : D.dma.curLba.toNat < D.dma.endLba.toNat) :
    D.advance.isDmaFinished = decide (D.dma.curLba.toNat + 1 = D.dma.endLba.toNat) :=
  Device.movedBy_isDmaFinished (k := 1) h

/-- A sector that did not move ends the command as a failure (44_dma_engine R381, R382). -/
theorem settle_afterSector_failed {s u : State} {c : Command} (hc : u.cur = some c) (hirq : u.irq = s.irq) (answer : Reply)
    (D : Device) (e : Event) :
    (afterSector c.d answer (false, (u.setReply .none).moved c.d D e)).settle s
      = (u.setDev c.d D.unarmed).closed c false [e] .failed :=
  settle_dmaComplete_moved hc hirq false D e .failed

/-- A sector that moved ends the command in success if it was the last, and else the command goes on (44_dma_engine R381,
R382). -/
theorem settle_afterSector_moved {s u : State} {c : Command} (hc : u.cur = some c) (hirq : u.irq = s.irq) (answer : Reply)
    (D : Device) (e : Event) :
    (afterSector c.d answer (true, (u.setReply .none).moved c.d D e)).settle s =
      if D.isDmaFinished then (u.setDev c.d D.unarmed).closed c true [e] answer
      else (u.moved c.d D e).setReply answer := by
  simp only [afterSector, State.moved_dev, if_true]
  split_ifs with hlast
  · exact settle_dmaComplete_moved hc hirq true D e answer
  · have hmore : ((u.setReply .none).moved c.d D e).setReply answer = (u.moved c.d D e).setReply answer := by
      cases c.d <;> rfl
    have hline : ((u.moved c.d D e).setReply answer).irq = s.irq := (State.setDev_irq u c.d _).trans hirq
    rw [hmore, settle_of_irq_eq hline.symm]

/-- The state in which the command goes on, field by field. -/
theorem State.setReply_moved (u : State) (d : Slot) (D : Device) (e : Event) (r : Reply) :
    (u.moved d D e).setReply r = { u.setDev d D with reply := r, trace := u.trace ++ [e] } := by
  cases d <;> rfl

/-! ### A sector read -/

/-- The sector at the current LBA passes the checks that the driver makes before a read (40_driver_capability R158). -/
def Device.SectorReadable (D : Device) : Prop := D.driver.readChecks D.sectorAddress D.driver.sectorSize = true

theorem Device.sectorReadable_iff {D : Device} :
    D.SectorReadable ↔ D.driver.medium.present = true
      ∧ D.sectorAddress + D.driver.sectorSize ≤ D.driver.medium.capacity.toNat * D.driver.sectorSize := by
  simp [Device.SectorReadable, Driver.readChecks]

/-- The event of a read of the sector at the current LBA (10_state R54). -/
def Device.readAnswered (D : Device) (d : Slot) (r : IoResult) : Event :=
  .backendRead d D.sectorAddress D.driver.sectorSize r

theorem State.emit_eq_moved (s : State) (d : Slot) (e : Event) : s.emit e = s.moved d (s.dev d) e := by
  cases d <;> rfl

theorem readDmaSector_of_refused {d : Slot} {s : State} (h : ¬(s.dev d).SectorReadable) :
    readDmaSector d s = (false, s.moved d (s.dev d) ((s.dev d).readAnswered d .fail)) :=
  (if_neg h).trans (congrArg _ (s.emit_eq_moved d _))

theorem readDmaSector_of_failed {d : Slot} {s : State} (h : (s.dev d).SectorReadable) (hfail : s.backendAnswer = false) :
    readDmaSector d s = (false, s.afterBackendCall.moved d (s.dev d) ((s.dev d).readAnswered d .fail)) := by
  rw [← s.afterBackendCall_dev d, ← State.emit_eq_moved]
  exact (if_pos h).trans (if_neg (by simp [hfail]))

theorem readDmaSector_of_ok {d : Slot} {s : State} (h : (s.dev d).SectorReadable) (hok : s.backendAnswer = true) :
    readDmaSector d s = (true, s.afterBackendCall.moved d (s.dev d).advance ((s.dev d).readAnswered d .ok)) :=
  ((if_pos h).trans (if_pos hok)).trans (by cases d <;> rfl)

/-- In an open read window a sector read is the transfer and what follows it (44_dma_engine R381). -/
theorem Moving.exec_dmaReadSector {c : Command} {s : State} (h : Moving c false s) :
    exec (.dmaReadSector c.d) s = .next
      ((afterSector c.d (.sector (s.dev c.d).sectorBytes) (readDmaSector c.d (s.setReply .none))).settle s) := by
  calc exec (.dmaReadSector c.d) s = atomically (dmaReadSector c.d) s := rfl
    _ = _ := by
      rw [atomically_live h.live, dmaReadSector, checkWindow_setReply, h.checkWindow, State.setReply_dev]

/-- The driver's checks fail (40_driver_capability R158). -/
theorem Moving.exec_dmaReadSector_of_refused {c : Command} {s : State} (h : Moving c false s)
    (hchk : ¬(s.dev c.d).SectorReadable) :
    exec (.dmaReadSector c.d) s = .next
      ((s.setDev c.d (s.dev c.d).unarmed).closed c false [(s.dev c.d).readAnswered c.d .fail] .failed) := by
  rw [h.exec_dmaReadSector, readDmaSector_of_refused (s := s.setReply .none) (by rwa [State.setReply_dev]), State.setReply_dev,
    settle_afterSector_failed h.cur rfl]

/-- The backend fails (20_memory R76). -/
theorem Moving.exec_dmaReadSector_of_failed {c : Command} {s : State} (h : Moving c false s)
    (hchk : (s.dev c.d).SectorReadable) (hfail : s.backendAnswer = false) :
    exec (.dmaReadSector c.d) s = .next
      ((s.afterBackendCall.setDev c.d (s.dev c.d).unarmed).closed c false [(s.dev c.d).readAnswered c.d .fail] .failed) := by
  rw [h.exec_dmaReadSector, readDmaSector_of_failed (s := s.setReply .none) (by rwa [State.setReply_dev]) hfail,
    State.setReply_dev]
  exact congrArg _ (settle_afterSector_failed (u := s.afterBackendCall) h.cur rfl _ _ _)

/-- The backend gives the sector (44_dma_engine R374, R376). -/
theorem Moving.exec_dmaReadSector_of_ok {c : Command} {s : State} (h : Moving c false s)
    (hchk : (s.dev c.d).SectorReadable) (hok : s.backendAnswer = true) :
    exec (.dmaReadSector c.d) s = .next
      (if (s.dev c.d).dma.curLba.toNat + 1 = (s.dev c.d).dma.endLba.toNat then
        (s.afterBackendCall.setDev c.d (s.dev c.d).unarmed).closed c true [(s.dev c.d).readAnswered c.d .ok]
          (.sector (s.dev c.d).sectorBytes)
       else
        (s.afterBackendCall.moved c.d (s.dev c.d).advance ((s.dev c.d).readAnswered c.d .ok)).setReply
          (.sector (s.dev c.d).sectorBytes)) := by
  rw [h.exec_dmaReadSector, readDmaSector_of_ok (s := s.setReply .none) (by rwa [State.setReply_dev]) hok, State.setReply_dev]
  refine congrArg _ ((settle_afterSector_moved (u := s.afterBackendCall) h.cur rfl _ _ _).trans ?_)
  simp only [Device.advance_isDmaFinished h.isOpen, decide_eq_true_eq]
  rfl

theorem Device.getElem?_sectorBytes (D : Device) {j : Nat} (hj : j < D.driver.sectorSize) :
    D.sectorBytes[j]? = some (D.driver.medium.img.read (D.sectorAddress + j)) := by
  have hlen : j < D.sectorBytes.length := by simpa [Device.sectorBytes] using hj
  rw [List.getElem?_eq_getElem hlen]
  exact congrArg some (Memory.getElem_readBytes _ _ _ _ hlen)

/-- Settles O48: the driver's checks and the backend's answer decide in turn. -/
theorem dmaSectorRead : Obligations.DmaSectorRead := by
  intro s c d hl hc hdma hd hact hread hopen D n lba asked
  subst hd
  have h : Moving c false s := ⟨hl, hc, hdma, hact, hread, hopen⟩
  refine ⟨fun hchk => h.exec_dmaReadSector_of_refused (hchk ∘ Device.sectorReadable_iff.mp), fun hpresent hinside => ?_⟩
  have hchk := Device.sectorReadable_iff.mpr ⟨hpresent, hinside⟩
  refine ⟨h.exec_dmaReadSector_of_failed hchk,
    fun hok => ⟨D.sectorBytes, by simp [Device.sectorBytes, D, n], fun j => D.getElem?_sectorBytes, ?_⟩⟩
  rw [h.exec_dmaReadSector_of_ok hchk hok, State.setReply_moved]
  rfl

/-! ### A sector write -/

/-- The sector at the current LBA passes the checks that the driver makes before a write (40_driver_capability R159). -/
def Device.SectorWritable (D : Device) : Prop := D.driver.writeChecks D.sectorAddress D.driver.sectorSize = true

theorem Device.sectorWritable_iff {D : Device} :
    D.SectorWritable ↔ D.driver.writable = true ∧ D.driver.medium.present = true
      ∧ D.sectorAddress + D.driver.sectorSize ≤ D.driver.medium.capacity.toNat * D.driver.sectorSize := by
  simp [Device.SectorWritable, Driver.writeChecks, and_assoc]

/-- The event of a write of the sector at the current LBA (10_state R54). -/
def Device.writeAnswered (D : Device) (d : Slot) (r : IoResult) : Event :=
  .backendWrite d D.sectorAddress D.driver.sectorSize r

theorem writeDmaSector_of_refused {d : Slot} {s : State} (h : ¬(s.dev d).SectorWritable) (buf : List Byte) :
    writeDmaSector d buf s = (false, s.moved d (s.dev d) ((s.dev d).writeAnswered d .fail)) :=
  (if_neg h).trans (congrArg _ (s.emit_eq_moved d _))

theorem writeDmaSector_of_failed {d : Slot} {s : State} (h : (s.dev d).SectorWritable) (hfail : s.backendAnswer = false)
    (buf : List Byte) :
    writeDmaSector d buf s = (false, (s.afterBackendCall.skipDraws (s.dev d).driver.sectorSize).moved d
      ((s.dev d).storeSector (s.drawBytes (s.dev d).driver.sectorSize)) ((s.dev d).writeAnswered d .fail)) :=
  ((if_pos h).trans (if_neg (by simp [hfail]))).trans (by cases d <;> rfl)

theorem writeDmaSector_of_ok {d : Slot} {s : State} (h : (s.dev d).SectorWritable) (hok : s.backendAnswer = true)
    (buf : List Byte) :
    writeDmaSector d buf s =
      (true, s.afterBackendCall.moved d ((s.dev d).storeSector buf).advance ((s.dev d).writeAnswered d .ok)) :=
  ((if_pos h).trans (if_pos hok)).trans (by cases d <;> rfl)

/-- A buffer that is not one sector faults (44_dma_engine R382). -/
theorem Moving.exec_dmaWriteSector_of_length_ne {c : Command} {s : State} (h : Moving c true s) {buf : List Byte}
    (hlen : buf.length ≠ (s.dev c.d).driver.sectorSize) :
    exec (.dmaWriteSector c.d buf) s = .next { s with fault := some .dmaBadSectorBuffer, reply := .none } :=
  atomically_of_fault (f := dmaWriteSector c.d buf) h.live (by
    rw [dmaWriteSector, checkWindow_setReply, h.checkWindow]
    exact if_neg (by rwa [State.setReply_dev]))

/-- In an open write window a sector write of one sector is the transfer and what follows it (44_dma_engine R382). -/
theorem Moving.exec_dmaWriteSector {c : Command} {s : State} (h : Moving c true s) {buf : List Byte}
    (hlen : buf.length = (s.dev c.d).driver.sectorSize) :
    exec (.dmaWriteSector c.d buf) s = .next
      ((afterSector c.d .done (writeDmaSector c.d buf (s.setReply .none))).settle s) := by
  have heff : dmaWriteSector c.d buf (s.setReply .none)
      = afterSector c.d .done (writeDmaSector c.d buf (s.setReply .none)) := by
    rw [dmaWriteSector, checkWindow_setReply, h.checkWindow]
    exact if_pos (by rwa [State.setReply_dev])
  calc exec (.dmaWriteSector c.d buf) s = atomically (dmaWriteSector c.d buf) s := rfl
    _ = _ := by rw [atomically_live h.live, heff]

/-- The driver's checks fail (40_driver_capability R159). -/
theorem Moving.exec_dmaWriteSector_of_refused {c : Command} {s : State} (h : Moving c true s) {buf : List Byte}
    (hlen : buf.length = (s.dev c.d).driver.sectorSize) (hchk : ¬(s.dev c.d).SectorWritable) :
    exec (.dmaWriteSector c.d buf) s = .next
      ((s.setDev c.d (s.dev c.d).unarmed).closed c false [(s.dev c.d).writeAnswered c.d .fail] .failed) := by
  rw [h.exec_dmaWriteSector hlen, writeDmaSector_of_refused (s := s.setReply .none) (by rwa [State.setReply_dev]),
    State.setReply_dev, settle_afterSector_failed h.cur rfl]

/-- The backend fails: the sector's bytes are draws (20_memory R76). -/
theorem Moving.exec_dmaWriteSector_of_failed {c : Command} {s : State} (h : Moving c true s) {buf : List Byte}
    (hlen : buf.length = (s.dev c.d).driver.sectorSize) (hchk : (s.dev c.d).SectorWritable)
    (hfail : s.backendAnswer = false) :
    exec (.dmaWriteSector c.d buf) s = .next
      (((s.afterBackendCall.skipDraws (s.dev c.d).driver.sectorSize).setDev c.d
        ((s.dev c.d).storeSector (s.drawBytes (s.dev c.d).driver.sectorSize)).unarmed).closed
          c false [(s.dev c.d).writeAnswered c.d .fail] .failed) := by
  rw [h.exec_dmaWriteSector hlen, writeDmaSector_of_failed (s := s.setReply .none) (by rwa [State.setReply_dev]) hfail,
    State.setReply_dev]
  exact congrArg _ (settle_afterSector_failed
    (u := s.afterBackendCall.skipDraws (s.dev c.d).driver.sectorSize) h.cur rfl _ _ _)

/-- The backend takes the sector (44_dma_engine R375, R376). -/
theorem Moving.exec_dmaWriteSector_of_ok {c : Command} {s : State} (h : Moving c true s) {buf : List Byte}
    (hlen : buf.length = (s.dev c.d).driver.sectorSize) (hchk : (s.dev c.d).SectorWritable)
    (hok : s.backendAnswer = true) :
    exec (.dmaWriteSector c.d buf) s = .next
      (if (s.dev c.d).dma.curLba.toNat + 1 = (s.dev c.d).dma.endLba.toNat then
        (s.afterBackendCall.setDev c.d ((s.dev c.d).storeSector buf).unarmed).closed
          c true [(s.dev c.d).writeAnswered c.d .ok] .done
       else
        (s.afterBackendCall.moved c.d ((s.dev c.d).storeSector buf).advance ((s.dev c.d).writeAnswered c.d .ok)).setReply
          .done) := by
  rw [h.exec_dmaWriteSector hlen, writeDmaSector_of_ok (s := s.setReply .none) (by rwa [State.setReply_dev]) hok,
    State.setReply_dev]
  refine congrArg _ ((settle_afterSector_moved (u := s.afterBackendCall) h.cur rfl _ _ _).trans ?_)
  have hopen : ((s.dev c.d).storeSector buf).dma.curLba.toNat < ((s.dev c.d).storeSector buf).dma.endLba.toNat := h.isOpen
  simp only [Device.advance_isDmaFinished hopen, decide_eq_true_eq]
  rfl

/-- Storing bytes at the current LBA leaves the medium's other bytes alone (44_dma_engine R375). -/
theorem Device.read_storeSector_other {D : Device} {bs : List Byte} {n a : Nat} (hlen : bs.length = n)
    (h : a < D.sectorAddress ∨ D.sectorAddress + n ≤ a) :
    (D.storeSector bs).driver.medium.img.read a = D.driver.medium.img.read a := by
  subst hlen
  exact Memory.read_writeBytes_other h

/-- Storing bytes at the current LBA puts byte `i` behind `i` others (20_memory R72). -/
theorem Device.getElem?_storeSector {D : Device} (hwf : Memory.wf D.driver.medium.img = true) {bs : List Byte} {i : Nat}
    (hi : i < bs.length) : bs[i]? = some ((D.storeSector bs).driver.medium.img.read (D.sectorAddress + i)) := by
  rw [List.getElem?_eq_getElem hi]
  exact congrArg some (Memory.read_writeBytes hwf hi).symm

theorem Device.wf_storeSector {D : Device} (hwf : Memory.wf D.driver.medium.img = true) (bs : List Byte) :
    Memory.wf (D.storeSector bs).driver.medium.img = true :=
  Memory.wf_writeBytes _ bs hwf

/-- Settles O49: the buffer's length, the driver's checks and the backend's answer decide in turn. -/
theorem dmaSectorWrite : Obligations.DmaSectorWrite := by
  intro s c d buf hl hc hdma hd hact hwrite hopen hwf D drv n lba asked allowed
  subst hd
  have h : Moving c true s := ⟨hl, hc, hdma, hact, hwrite, hopen⟩
  refine ⟨h.exec_dmaWriteSector_of_length_ne,
    fun hlen hchk => h.exec_dmaWriteSector_of_refused hlen (hchk ∘ Device.sectorWritable_iff.mp), fun hlen hchk => ?_⟩
  have hchk : D.SectorWritable := Device.sectorWritable_iff.mpr hchk
  cases hanswer : s.backendAnswer with
  | false =>
    refine ⟨(D.storeSector (s.drawBytes n)).driver.medium.img, D.wf_storeSector hwf _,
      fun a => D.read_storeSector_other (s.length_drawBytes n), fun _ => ?_, nofun⟩
    exact h.exec_dmaWriteSector_of_failed hlen hchk hanswer
  | true =>
    refine ⟨(D.storeSector buf).driver.medium.img, D.wf_storeSector hwf _, fun a => D.read_storeSector_other hlen, nofun,
      fun _ => ⟨fun j hj => D.getElem?_storeSector hwf (hlen ▸ hj), ?_⟩⟩
    rw [h.exec_dmaWriteSector_of_ok hlen hchk hanswer, State.setReply_moved]
    rfl

end Sys2Proof.Machine
end

section
/-! PROOFS. A write transfer sector by sector: one buffer after the other, to the window's end (44_dma_engine R375, R376,
R382, R386; 20_memory R72, R84). -/

namespace Sys2Proof

theorem Memory.writeBytes_append (m : Memory) (a : Nat) (xs ys : List Byte) :
    m.writeBytes a (xs ++ ys) = (m.writeBytes a xs).writeBytes (a + xs.length) ys := by
  induction xs generalizing m a with
  | nil => rfl
  | cons x xs ih =>
    rw [List.cons_append, Memory.writeBytes, ih, Memory.writeBytes, List.length_cons, Nat.add_assoc, Nat.add_comm 1]

/-! ### Buffers of one length -/

theorem length_flatten_of_forall_length {α : Type} {n : Nat} {bufs : List (List α)} (h : ∀ buf ∈ bufs, buf.length = n) :
    bufs.flatten.length = bufs.length * n := by
  rw [List.length_flatten, List.sum_eq_card_nsmul _ n (by simpa using h), List.length_map, smul_eq_mul]

/-- Byte `j` of buffer `k` lies behind the `k` buffers before it. -/
theorem getElem?_flatten_of_forall_length {α : Type} {n : Nat} {bufs : List (List α)} (h : ∀ buf ∈ bufs, buf.length = n)
    {k j : Nat} {buf : List α} (hk : bufs[k]? = some buf) (hj : j < n) : bufs.flatten[k * n + j]? = buf[j]? := by
  induction bufs generalizing k with
  | nil => simp at hk
  | cons b bs ih =>
    obtain ⟨hb, hbs⟩ := List.forall_mem_cons.mp h
    rw [List.flatten_cons]
    cases k with
    | zero =>
      obtain rfl : b = buf := by simpa using hk
      rw [Nat.zero_mul, Nat.zero_add, List.getElem?_append_left (by omega)]
    | succ k =>
      have hoffset : (k + 1) * n + j - b.length = k * n + j := by rw [hb, Nat.succ_mul]; omega
      rw [List.getElem?_append_right (by rw [hb, Nat.succ_mul]; omega), hoffset]
      exact ih hbs (by simpa using hk)

end Sys2Proof

namespace Sys2Proof.Machine

/-! ### The transfer -/

/-- The command `c` is about to move the buffers `bufs` to the window of its device: each is one sector, together they fill the
window, the device takes them, and the supplied answers of the backend have a success for each (44_dma_engine R386). -/
structure Writing (c : Command) (bufs : List (List Byte)) (more : List Bool) (s : State) : Prop where
  live : s.live
  cur : s.cur = some c
  isDma : c.proto = .dma
  active : (s.dev c.d).transferActive = true
  isWrite : (s.dev c.d).dma.isWrite = true
  window : (s.dev c.d).dma.curLba.toNat + bufs.length = (s.dev c.d).dma.endLba.toNat
  writable : (s.dev c.d).driver.writable = true
  present : (s.dev c.d).driver.medium.present = true
  inside : (s.dev c.d).dma.endLba.toNat ≤ (s.dev c.d).driver.medium.capacity.toNat
  sectors : ∀ buf ∈ bufs, buf.length = (s.dev c.d).driver.sectorSize
  answers : s.answers = List.replicate bufs.length true ++ more

section
variable {c : Command} {buf : List Byte} {bufs : List (List Byte)} {more : List Bool} {s : State}

theorem Writing.moving (h : Writing c (buf :: bufs) more s) : Moving c true s where
  live := h.live
  cur := h.cur
  isDma := h.isDma
  active := h.active
  direction := h.isWrite
  isOpen := by
    have hwindow := h.window
    rw [List.length_cons] at hwindow
    omega

theorem Writing.sectorWritable (h : Writing c (buf :: bufs) more s) : (s.dev c.d).SectorWritable := by
  have hbytes := Nat.mul_le_mul_right (s.dev c.d).driver.sectorSize (Nat.succ_le_of_lt (h.moving.isOpen.trans_le h.inside))
  rw [Nat.succ_mul] at hbytes
  exact Device.sectorWritable_iff.mpr ⟨h.writable, h.present, hbytes⟩

/-- The state between two sectors: one buffer is stored, and the window has moved on (44_dma_engine R375). -/
def State.afterSectorWrite (s : State) (d : Slot) (buf : List Byte) : State :=
  (s.afterBackendCall.moved d ((s.dev d).storeSector buf).advance ((s.dev d).writeAnswered d .ok)).setReply .done

theorem State.afterSectorWrite_dev (s : State) (d : Slot) (buf : List Byte) :
    (s.afterSectorWrite d buf).dev d = ((s.dev d).storeSector buf).advance := by
  simp [State.afterSectorWrite]

theorem State.afterSectorWrite_dev_other (s : State) (d : Slot) (buf : List Byte) :
    (s.afterSectorWrite d buf).dev d.other = s.dev d.other := by
  cases d <;> rfl

theorem State.afterSectorWrite_regs (s : State) (d : Slot) (buf : List Byte) : (s.afterSectorWrite d buf).regs = s.regs := by
  cases d <;> rfl

theorem Writing.backendAnswer (h : Writing c (buf :: bufs) more s) : s.backendAnswer = true := by
  rw [State.backendAnswer, h.answers]
  rfl

/-- Storing one sector and then more behind it is storing all of it at once. -/
theorem storeSector_advance_storeSector {D : Device} (hlen : buf.length = D.driver.sectorSize)
    (hopen : D.dma.curLba.toNat < D.dma.endLba.toNat) (bs : List Byte) :
    ((D.storeSector buf).advance.storeSector bs).unarmed = (D.storeSector (buf ++ bs)).unarmed := by
  have haddr : (D.storeSector buf).advance.sectorAddress = D.sectorAddress + buf.length := by
    have hcur : (D.storeSector buf).advance.dma.curLba.toNat = D.dma.curLba.toNat + 1 := D.movedBy_curLba (k := 1) hopen
    rw [Device.sectorAddress, hcur, hlen, Device.sectorAddress]
    exact Nat.succ_mul _ _
  have himg : (D.storeSector buf).driver.medium.img.writeBytes (D.storeSector buf).advance.sectorAddress bs
      = D.driver.medium.img.writeBytes D.sectorAddress (buf ++ bs) := by
    rw [haddr, Memory.writeBytes_append]
    rfl
  exact congrArg (fun img => ({ D with driver := D.driver.withImage img } : Device).unarmed) himg

/-- From `s` to `t` the command `c` stored `bytes` at its window's current LBA and ended in success with one interrupt
(42_command_engine R257, R259; 44_dma_engine R378). -/
structure WriteDone (c : Command) (bytes : List Byte) (more : List Bool) (s t : State) : Prop where
  cur : t.cur = none
  regs : t.regs = { s.regs with status := 0x50, error := 0x00 }
  intPending : t.intPending = true
  dev : t.dev c.d = ((s.dev c.d).storeSector bytes).unarmed
  other : t.dev c.d.other = s.dev c.d.other
  answers : t.answers = more

theorem Slot.other_ne (d : Slot) : d.other ≠ d := by
  cases d <;> decide

/-- The write of the window's last sector (44_dma_engine R382). -/
theorem Writing.last (h : Writing c [buf] more s) :
    ∃ t, exec (.dmaWriteSector c.d buf) s = .next t ∧ WriteDone c buf more s t := by
  have hexec := h.moving.exec_dmaWriteSector_of_ok (h.sectors buf (by simp)) h.sectorWritable h.backendAnswer
  have hlast : (s.dev c.d).dma.curLba.toNat + 1 = (s.dev c.d).dma.endLba.toNat := h.window
  rw [if_pos hlast] at hexec
  refine ⟨_, hexec, ⟨rfl, ?_, rfl, ?_, ?_, ?_⟩⟩
  · simp [State.closed]
  · rw [State.closed_dev, State.setDev_dev_same]
  · rw [State.closed_dev, State.setDev_dev_other _ (Slot.other_ne c.d), State.afterBackendCall_dev]
  · simp [State.closed, h.answers]

/-- The write of an earlier sector leaves a transfer of the buffers behind it (44_dma_engine R375, R376). -/
theorem Writing.next (h : Writing c (buf :: bufs) more s) (hne : bufs ≠ []) :
    exec (.dmaWriteSector c.d buf) s = .next (s.afterSectorWrite c.d buf) ∧
      Writing c bufs more (s.afterSectorWrite c.d buf) := by
  have hpos : 0 < bufs.length := List.length_pos_iff.mpr hne
  have hwindow : (s.dev c.d).dma.curLba.toNat + 1 + bufs.length = (s.dev c.d).dma.endLba.toNat := by
    rw [← h.window, List.length_cons, Nat.add_assoc, Nat.add_comm 1]
  have hexec := h.moving.exec_dmaWriteSector_of_ok (h.sectors buf (by simp)) h.sectorWritable h.backendAnswer
  rw [if_neg (by omega)] at hexec
  have hcur : ((s.dev c.d).storeSector buf).advance.dma.curLba.toNat = (s.dev c.d).dma.curLba.toNat + 1 :=
    Device.movedBy_curLba (D := (s.dev c.d).storeSector buf) (k := 1) h.moving.isOpen
  have hdev := s.afterSectorWrite_dev c.d buf
  exact ⟨hexec,
    { live := by simpa [State.live, State.afterSectorWrite, State.moved] using h.live
      cur := by simpa [State.afterSectorWrite, State.moved] using h.cur
      isDma := h.isDma
      active := by rw [hdev]; exact h.active
      isWrite := by rw [hdev]; exact h.isWrite
      window := by rw [hdev, hcur]; exact hwindow
      writable := by rw [hdev]; exact h.writable
      present := by rw [hdev]; exact h.present
      inside := by rw [hdev]; exact h.inside
      sectors := by rw [hdev]; exact (List.forall_mem_cons.mp h.sectors).2
      answers := by simp [State.afterSectorWrite, State.moved, h.answers, List.replicate_succ] }⟩

/-- The first sector and then the others are all of them. -/
theorem WriteDone.cons {bs : List Byte} {t : State} (h : Writing c (buf :: bufs) more s)
    (ht : WriteDone c bs more (s.afterSectorWrite c.d buf) t) : WriteDone c (buf ++ bs) more s t where
  cur := ht.cur
  regs := by rw [ht.regs, State.afterSectorWrite_regs]
  intPending := ht.intPending
  dev := by
    rw [ht.dev, State.afterSectorWrite_dev, storeSector_advance_storeSector (h.sectors buf (by simp)) h.moving.isOpen]
  other := ht.other.trans (s.afterSectorWrite_dev_other c.d buf)
  answers := ht.answers

/-- As many writes as the window has sectors store all the buffers and end the command (44_dma_engine R386). -/
theorem Writing.exists_execAll (h : Writing c bufs more s) (hne : bufs ≠ []) :
    ∃ t, execAll (bufs.map (.dmaWriteSector c.d)) s = some t ∧ WriteDone c bufs.flatten more s t := by
  induction bufs generalizing s with
  | nil => exact absurd rfl hne
  | cons buf rest ih =>
    cases rest with
    | nil =>
      obtain ⟨t, hexec, ht⟩ := h.last
      exact ⟨t, by simp [execAll, hexec], by simpa using ht⟩
    | cons b bs =>
      obtain ⟨hexec, hrest⟩ := h.next (List.cons_ne_nil b bs)
      obtain ⟨t, hrun, ht⟩ := ih hrest (List.cons_ne_nil b bs)
      exact ⟨t, by simpa [execAll, hexec] using hrun, ht.cons h⟩

end

/-- Settles O54: the buffers, one behind the other, are what the medium takes at the window's start. -/
theorem aWriteTransferStoresItsSectors : Obligations.AWriteTransferStoresItsSectors := by
  intro s c d more bufs hl hc hdma hd D n lba hact hwrite hne hwindow hwritable hpresent hinside hwf hlen hans
  subst hd
  have h : Writing c bufs more s :=
    ⟨hl, hc, hdma, hact, hwrite, hwindow, hwritable, hpresent, hinside, hlen, hans⟩
  obtain ⟨t, hrun, ht⟩ := h.exists_execAll hne
  have hbytes : bufs.flatten.length = bufs.length * n := length_flatten_of_forall_length hlen
  refine ⟨t, hrun, ht.cur, ht.regs, ht.intPending, ?inactive, ht.other, ht.answers, fun a ha => ?elsewhere,
    fun k buf j hk hj => ?stored⟩
  case inactive =>
    rw [ht.dev]
    rfl
  case elsewhere =>
    rw [ht.dev]
    exact D.read_storeSector_other hbytes (by rwa [Nat.add_mul] at ha)
  case stored =>
    have hget := getElem?_flatten_of_forall_length hlen hk hj
    have hbuf : buf.length = n := hlen buf (List.mem_of_getElem? hk)
    have hpos : k * n + j < bufs.flatten.length := by
      by_contra hout
      rw [List.getElem?_eq_none (Nat.le_of_not_lt hout), List.getElem?_eq_getElem (hbuf ▸ hj)] at hget
      cases hget
    rw [ht.dev, ← hget, Nat.add_mul, Nat.add_assoc]
    exact D.getElem?_storeSector hwf hpos

end Sys2Proof.Machine
end

section
/-! PROOFS. Addressing and the PIO buffer: the CHS conversions are inverse inside the geometry, and what one buffer access moves
(45_pio_and_addressing R421 to R424, R430 to R433, R435). -/

namespace Sys2Proof.Machine

/-! ### The CHS conversions -/

/-- The track of the LBA that a CHS address goes to, counted over all cylinders, and the place on it (45_pio_and_addressing
R430). -/
theorem chsToLba_div_mod {g : Geometry} {cyl head sec : Nat} (hsec : 1 ≤ sec) (hspt : sec ≤ g.spt) :
    chsToLba g cyl head sec / g.spt = cyl * g.heads + head ∧ chsToLba g cyl head sec % g.spt = sec - 1 := by
  have hpos : 0 < g.spt := by omega
  have hlt : sec - 1 < g.spt := by omega
  rw [chsToLba, Nat.mul_comm]
  exact ⟨by rw [Nat.mul_add_div hpos, Nat.div_eq_of_lt hlt, Nat.add_zero],
    by rw [Nat.mul_add_mod, Nat.mod_eq_of_lt hlt]⟩

/-- Settles O58: the sector is the place on the track, and the track gives head and cylinder. -/
theorem chsRoundTrip : Obligations.ChsRoundTrip := by
  intro g cyl head sec hheads _ hhead hsec hspt
  obtain ⟨htrack, hplace⟩ := chsToLba_div_mod (cyl := cyl) (head := head) hsec hspt
  have hcyl : (cyl * g.heads + head) / g.heads = cyl := by
    rw [Nat.mul_comm, Nat.mul_add_div hheads, Nat.div_eq_of_lt hhead, Nat.add_zero]
  have hmod : (cyl * g.heads + head) % g.heads = head := by
    rw [Nat.mul_comm, Nat.mul_add_mod, Nat.mod_eq_of_lt hhead]
  rw [lbaToChs, Nat.mul_comm g.heads, ← Nat.div_div_eq_div_mul, htrack, hplace, hcyl, hmod, Nat.sub_add_cancel hsec]

/-- An LBA goes to a CHS address inside the geometry (45_pio_and_addressing R431, R432). -/
theorem chsValid_lbaToChs {g : Geometry} (hheads : 1 ≤ g.heads) (hspt : 1 ≤ g.spt) (lba : Nat) :
    chsValid g (lbaToChs g lba).2.1 (lbaToChs g lba).2.2 = true :=
  chsValid_iff.mpr ⟨Nat.mod_lt _ hheads, Nat.succ_pos _, Nat.mod_lt _ hspt⟩

theorem chsToLba_lbaToChs (g : Geometry) (lba : Nat) :
    chsToLba g (lbaToChs g lba).1 (lbaToChs g lba).2.1 (lbaToChs g lba).2.2 = lba :=
  calc (lba / (g.heads * g.spt) * g.heads + lba / g.spt % g.heads) * g.spt + lba % g.spt
      = lba / g.spt * g.spt + lba % g.spt := by
        rw [Nat.mul_comm g.heads, ← Nat.div_div_eq_div_mul, Nat.div_add_mod']
    _ = lba := Nat.div_add_mod' lba g.spt

/-- Settles O59, by the two facts about the conversion of an LBA; the example is evaluated. -/
theorem lbaRoundTrip : Obligations.LbaRoundTrip :=
  ⟨fun g lba hheads hspt => ⟨chsValid_lbaToChs hheads hspt lba, chsToLba_lbaToChs g lba⟩, by decide, by decide⟩

/-! ### One buffer access -/

/-- The bytes that a buffer read copies out are those at the cursor, in order (45_pio_and_addressing R422). -/
theorem Device.getElem?_readBuffer (D : Device) {length j : Nat} (hj : j < D.moveCount length) :
    (D.readBuffer length)[j]? = some (D.pioBuf.read (D.pioCursor + j)) := by
  have hlt : j < (Memory.readBytes D.pioBuf D.pioCursor (D.moveCount length)).length := by simpa using hj
  rw [Device.readBuffer, List.getElem?_eq_getElem hlt, Memory.getElem_readBytes]

theorem Device.read_writeBuffer_moved {D : Device} (hwf : Memory.wf D.pioBuf = true) (v : BitVec 32) {length j : Nat}
    (hj : j < D.moveCount length) : (D.writeBuffer v length).pioBuf.read (D.pioCursor + j) = byteOf v j := by
  rw [D.read_writeBuffer hwf, if_pos ⟨Nat.le_add_right _ _, Nat.add_lt_add_left hj _⟩, Nat.add_sub_cancel_left]

theorem Device.read_writeBuffer_other {D : Device} (hwf : Memory.wf D.pioBuf = true) (v : BitVec 32) {length a : Nat}
    (ha : a < D.pioCursor ∨ D.pioCursor + D.moveCount length ≤ a) :
    (D.writeBuffer v length).pioBuf.read a = D.pioBuf.read a := by
  rw [D.read_writeBuffer hwf, if_neg (by omega)]

/-- Settles O60: the bound of the cursor, and the bytes of a read and of a write. -/
theorem bufferAccessesStayInside : Obligations.BufferAccessesStayInside := by
  intro D v length hcursor hwf
  have hend : D.pioCursor + D.moveCount length ≤ 512 := D.cursor_add_moveCount_le hcursor length
  exact ⟨D.length_readBuffer length, min_le_right _ _, fun j => D.getElem?_readBuffer, rfl, hend, rfl, hend,
    fun j => D.read_writeBuffer_moved hwf v, fun a => D.read_writeBuffer_other hwf v, (Nat.sub_sub _ _ _).symm⟩

end Sys2Proof.Machine
end

section
/-! PROOFS. A block read by any mix of widths (45_pio_and_addressing R421, R425; 42_command_engine R256): the accesses before its
last byte, the access that reaches or passes it, and that no operation but a Data read and the assertion of soft reset ends the
command or touches its block (70_reset_and_hazards R601, R621, R622). -/

namespace Sys2Proof.Machine

/-! ### The accesses of a block -/

/-- The Data reads, each with the bytes it moves inside the buffer (41_register_access R210). -/
def dataReads : List (Instr × Nat) := [(.rdDataB, 1), (.rdDataW, 2), (.rdDataD, 4)]

/-- The bytes that a run of accesses inside the buffer moves. -/
def movedBytes (accesses : List (Instr × Nat)) : Nat := (accesses.map Prod.snd).sum

theorem movedBytes_cons (p : Instr × Nat) (accesses : List (Instr × Nat)) :
    movedBytes (p :: accesses) = p.2 + movedBytes accesses := rfl

/-- Each of the Data reads is the effect of its width. -/
theorem exec_dataRead {p : Instr × Nat} (hp : p ∈ dataReads) :
    ∃ n : Width, p.2 = n.bytes ∧ ∀ s, exec p.1 s = atomically (rdData n) s := by
  simp only [dataReads, List.mem_cons, List.not_mem_nil, or_false] at hp
  obtain rfl | rfl | rfl := hp
  · exact ⟨.one, rfl, fun _ => rfl⟩
  · exact ⟨.two, rfl, fun _ => rfl⟩
  · exact ⟨.four, rfl, fun _ => rfl⟩

/-- The channel is in the data phase of the data-in command `c`. -/
structure ReadingBlock (c : Command) (s : State) : Prop where
  live : s.live
  cur : s.cur = some c
  proto : c.proto = .pioIn

/-- From `s` to `t` the block of the command `c` was read on by `m` bytes, inside the block. -/
structure BlockReadOn (c : Command) (m : Nat) (s t : State) : Prop where
  live : t.live
  cur : t.cur = s.cur
  regs : t.regs = s.regs
  intPending : t.intPending = s.intPending
  trace : t.trace = s.trace
  dev : t.dev c.d = { s.dev c.d with pioCursor := (s.dev c.d).pioCursor + m }

theorem BlockReadOn.reading {c : Command} {m : Nat} {s t : State} (h : BlockReadOn c m s t) (hs : ReadingBlock c s) :
    ReadingBlock c t :=
  ⟨h.live, h.cur.trans hs.cur, hs.proto⟩

theorem BlockReadOn.refl {c : Command} {s : State} (hl : s.live) : BlockReadOn c 0 s s :=
  ⟨hl, rfl, rfl, rfl, rfl, rfl⟩

theorem BlockReadOn.trans {c : Command} {m n : Nat} {s t u : State} (hst : BlockReadOn c m s t)
    (htu : BlockReadOn c n t u) : BlockReadOn c (m + n) s u where
  live := htu.live
  cur := htu.cur.trans hst.cur
  regs := htu.regs.trans hst.regs
  intPending := htu.intPending.trans hst.intPending
  trace := htu.trace.trans hst.trace
  dev := by rw [htu.dev, hst.dev, Nat.add_assoc]

theorem Device.moveCount_of_le {D : Device} {n : Nat} (h : D.pioCursor + n ≤ 512) : D.moveCount n = n :=
  min_eq_left (Nat.le_sub_of_add_le' h)

/-- The access that reaches or passes the last byte moves what is left of the block (45_pio_and_addressing R421). -/
theorem Device.cursor_add_moveCount_of_end {D : Device} {n : Nat} (hle : D.pioCursor ≤ 512) (hend : 512 ≤ D.pioCursor + n) :
    D.pioCursor + D.moveCount n = 512 := by
  have hmove : D.moveCount n = 512 - D.pioCursor := min_eq_right (Nat.sub_le_iff_le_add'.mpr hend)
  omega

/-- An access before the last byte moves its bytes and leaves the rest as it was (41_register_access R210). -/
theorem exec_dataRead_inside {c : Command} {s : State} (hs : ReadingBlock c s) {p : Instr × Nat} (hp : p ∈ dataReads)
    (hlt : (s.dev c.d).pioCursor + p.2 < 512) : ∃ t, exec p.1 s = .next t ∧ BlockReadOn c p.2 s t := by
  obtain ⟨n, hn, hexec⟩ := exec_dataRead hp
  rw [hn] at hlt ⊢
  obtain ⟨r, -, -, hnext⟩ := atomically_rdData_result hs.live hs.cur hs.proto n
  rw [Device.moveCount_of_le hlt.le, if_neg hlt.ne] at hnext
  refine ⟨_, (hexec s).trans hnext, ?_⟩
  constructor
  case live => exact ⟨(State.setDev_fault _ _ _).trans hs.live.1, (State.setDev_refused _ _ _).trans hs.live.2⟩
  case dev => exact State.setDev_dev_same s c.d _
  case cur => exact State.setDev_cur _ _ _
  case regs => exact State.setDev_regs _ _ _
  case intPending => exact State.setDev_intPending _ _ _
  case trace => exact State.setDev_trace _ _ _

/-- The access that reaches or passes the last byte ends the command in success, without an interrupt (42_command_engine
R256). -/
theorem exec_dataRead_last {c : Command} {s : State} (hs : ReadingBlock c s) {p : Instr × Nat} (hp : p ∈ dataReads)
    (hle : (s.dev c.d).pioCursor ≤ 512) (hend : 512 ≤ (s.dev c.d).pioCursor + p.2) :
    ∃ t, exec p.1 s = .next t ∧ t.cur = none ∧ t.regs = { s.regs with status := 0x50 } ∧ t.intPending = s.intPending
      ∧ t.trace = s.trace ++ [.cmdEnd c.opcode c.d .success] ∧ t.dev c.d = { s.dev c.d with pioCursor := 512 } := by
  obtain ⟨n, hn, hexec⟩ := exec_dataRead hp
  rw [hn] at hend
  obtain ⟨r, -, -, hnext⟩ := atomically_rdData_result hs.live hs.cur hs.proto n
  rw [if_pos (Device.cursor_add_moveCount_of_end hle hend)] at hnext
  exact ⟨_, (hexec s).trans hnext, rfl, rfl, State.setDev_intPending _ _ _, rfl, State.setDev_dev_same s c.d _⟩

/-- A run of accesses before the last byte, by induction on the accesses. -/
theorem exists_execAll_dataReads {c : Command} {accesses : List (Instr × Nat)} (hmem : ∀ p ∈ accesses, p ∈ dataReads)
    {s : State} (hs : ReadingBlock c s) (hlt : (s.dev c.d).pioCursor + movedBytes accesses < 512) :
    ∃ t, execAll (accesses.map Prod.fst) s = some t ∧ BlockReadOn c (movedBytes accesses) s t := by
  induction accesses generalizing s with
  | nil => exact ⟨s, rfl, .refl hs.live⟩
  | cons p rest ih =>
    obtain ⟨hp, hrest⟩ := List.forall_mem_cons.mp hmem
    rw [movedBytes_cons] at hlt ⊢
    obtain ⟨u, hexec, hu⟩ := exec_dataRead_inside hs hp (by omega)
    have hleft : (u.dev c.d).pioCursor + movedBytes rest < 512 := by
      rw [hu.dev]
      dsimp only
      omega
    obtain ⟨t, hrun, ht⟩ := ih hrest (hu.reading hs) hleft
    exact ⟨t, by simpa [execAll, hexec] using hrun, hu.trans ht⟩

/-! ### What leaves a block alone -/

/-- The cursor and the bytes of a device's buffer. -/
def Device.block (D : Device) : Nat × Block := (D.pioCursor, D.pioBuf)

/-- From `s` to `t` no buffer and no cursor changed. -/
def SameBlocks (s t : State) : Prop := ∀ d, (t.dev d).block = (s.dev d).block

theorem SameBlocks.of_dev {s t : State} (h : ∀ d, t.dev d = s.dev d) : SameBlocks s t :=
  fun d => congrArg Device.block (h d)

/-- A change of the medium keeps the blocks (40_driver_capability R170). -/
theorem sameBlocks_changeMedium (s : State) (d : Slot) (m : Medium) :
    SameBlocks s (s.setDev d ((s.dev d).changeMedium m)) := by
  intro d'
  rw [State.setDev_dev]
  split
  · subst d'; rfl
  · rfl

/-- The frame of a step, its cleared reply and its edge, holds no block. -/
theorem SameBlocks.settle {s t before : State} {r : Reply} (h : SameBlocks (s.setReply r) t) :
    SameBlocks s (t.settle before) := by
  intro d
  rw [settle_dev, h d, State.setReply_dev]

/-- An atomic operation keeps the blocks that its effect keeps. -/
theorem SameBlocks.of_atomically {f : State → State} {s t : State} (h : atomically f s = .next t)
    (hf : SameBlocks (s.setReply .none) (f (s.setReply .none))) : SameBlocks s t := by
  obtain ⟨-, rfl⟩ := atomically_next.mp h
  exact hf.settle

theorem openPhase_of_reading {c : Command} {s : State} (hc : s.cur = some c) (hp : c.proto = .pioIn) {p : Proto}
    (hne : p ≠ .pioIn) : s.openPhase p = none := by
  refine openPhase_eq_none.mpr fun c' hc' hproto => hne ?_
  obtain rfl : c = c' := Option.some.inj (hc.symm.trans hc')
  exact hproto.symm.trans hp

/-- No window is armed for a data-in command (44_dma_engine R384). -/
theorem not_armed_of_reading {c : Command} {s : State} (hc : s.cur = some c) (hp : c.proto = .pioIn) (d : Slot) :
    ¬s.Armed d := by
  rintro ⟨c', hc', hdma, -⟩
  obtain rfl : c = c' := Option.some.inj (hc.symm.trans hc')
  exact Proto.noConfusion (hp.symm.trans hdma)

theorem wrTask_dev (reg : TaskReg) (v : Byte) (s : State) (d : Slot) : (wrTask reg v s).dev d = s.dev d := by
  unfold wrTask
  split_ifs <;> simp

/-- A Command write with a command in flight faults (41_register_access R215). -/
theorem SameBlocks.of_commandWrite {v : Byte} {run : State → State} {s t : State} {c : Command} (hc : s.cur = some c)
    (h : commandWrite v run s = .next t) : SameBlocks s t := by
  obtain ⟨-, ⟨-, rfl⟩ | ⟨-, -, rfl⟩ | ⟨-, hnone, -⟩⟩ := commandWrite_next h
  · exact .of_dev fun d => by simp
  · exact .of_dev fun d => by simp
  · exact absurd (hc.symm.trans hnone) (by simp)

/-- A Device Control write without a rising edge of SRST keeps the blocks (70_reset_and_hazards R602). -/
theorem sameBlocks_wrDevCtl {v : Byte} {s : State} (hrise : ¬(Machine.srst s.regs.devCtl = false ∧ Machine.srst v = true)) :
    SameBlocks s (wrDevCtl v s) := by
  by_cases hfall : Machine.srst s.regs.devCtl = true ∧ Machine.srst v = false
  · rw [wrDevCtl_of_fall hfall]
    intro d
    rw [softResetRelease_dev, State.setRegs_dev]
    rfl
  · rw [wrDevCtl_of_level hrise hfall]
    exact .of_dev fun d => by simp

/-- The operation reads the Data register (41_register_access R210). -/
def ReadsData (i : Instr) : Prop := ∃ p ∈ dataReads, i = p.1

/-- The operation asserts soft reset: a rising edge of SRST (41_register_access R217). -/
def AssertsReset (i : Instr) (s : State) : Prop :=
  ∃ v, i = .wrDevCtl v ∧ s.regs.devCtl.getLsbD 2 = false ∧ v.getLsbD 2 = true

/-- In a data-in phase only a Data read and the assertion of soft reset can touch a block (45_pio_and_addressing R421;
70_reset_and_hazards R601). -/
theorem sameBlocks_of_exec {c : Command} {i : Instr} {s t : State} (hc : s.cur = some c) (hp : c.proto = .pioIn)
    (hread : ¬ReadsData i) (hreset : ¬AssertsReset i s) (h : exec i s = .next t) : SameBlocks s t := by
  have hl := live_of_exec h
  cases i with
  | rdDataB | rdDataW | rdDataD => exact absurd (by simp [ReadsData, dataReads]) hread
  | wrDataB | wrDataW | wrDataD =>
    refine .of_atomically h (.of_dev fun d => ?_)
    rw [wrData, openPhase_of_reading (s := s.setReply .none) hc hp (by decide), State.diag_dev]
  | rdError | rdSectorCount | rdSectorNumber | rdCylLow | rdCylHigh | rdDeviceHead | rdAltStatus | rdStatus
  | dmaQuery => exact .of_atomically h (.of_dev fun d => rfl)
  | refusedWidth | refusedAccess => exact .of_atomically (f := (·.refuse _)) h (.of_dev fun d => rfl)
  | wrFeatures | wrSectorCount | wrSectorNumber | wrCylLow | wrCylHigh | wrDeviceHead =>
    exact .of_atomically h (.of_dev (wrTask_dev _ _ _))
  | wrDevCtl v => exact .of_atomically h (sameBlocks_wrDevCtl fun hrise => hreset ⟨v, rfl, hrise⟩)
  | dmaReadSector d =>
    have hfault := exec_dmaReadSector_of_fault hl (checkWindow_of_not_armed (not_armed_of_reading hc hp d) false)
    obtain rfl := Host.Outcome.next.inj (hfault.symm.trans h)
    exact .of_dev fun d' => by cases d' <;> rfl
  | dmaWriteSector d buf =>
    have hfault := exec_dmaWriteSector_of_fault hl (checkWindow_of_not_armed (not_armed_of_reading hc hp d) true) buf
    obtain rfl := Host.Outcome.next.inj (hfault.symm.trans h)
    exact .of_dev fun d' => by cases d' <;> rfl
  | dmaAbort =>
    refine .of_atomically h (.of_dev fun d => ?_)
    rw [dmaAbort, openPhase_of_reading (s := s.setReply .none) hc hp (by decide), State.diag_dev]
  | mediumChange d present capacity img =>
    obtain ⟨-, -, rfl⟩ := whenAllowed_next.mp h
    exact (sameBlocks_changeMedium _ d _).settle
  | attach d drv =>
    obtain ⟨hallowed, -⟩ := whenAllowed_next.mp h
    exact absurd hallowed (by simp [hc])
  | _ => exact .of_commandWrite hc h

/-- In a data-in phase only a Data read and the assertion of soft reset can end the command (42_command_engine R253). -/
theorem exec_cur_of_reading {c : Command} {i : Instr} {s t : State} (hc : s.cur = some c) (hp : c.proto = .pioIn)
    (hread : ¬ReadsData i) (hreset : ¬AssertsReset i s) (h : exec i s = .next t) : t.cur = some c := by
  have hstep := exec_curStep h
  generalize t.cur = cur at hstep
  cases hstep with
  | kept => exact hc
  | started v proto hi hne hnone => exact absurd (hc.symm.trans hnone) (by simp)
  | ended hend =>
    obtain ⟨-, hi⟩ | ⟨hout, -⟩ | ⟨hdma, -⟩ | hrise := hend c hc
    · exact absurd (by simpa [ReadsData, dataReads] using hi) hread
    · exact Proto.noConfusion (hp.symm.trans hout)
    · exact Proto.noConfusion (hp.symm.trans hdma)
    · exact absurd hrise hreset

/-- The assertion of soft reset abandons the command: no end, no interrupt (70_reset_and_hazards R601). -/
theorem exec_wrDevCtl_abandons {c : Command} {v : Byte} {s t : State} (hc : s.cur = some c)
    (hrise : s.regs.devCtl.getLsbD 2 = false ∧ v.getLsbD 2 = true) (h : exec (.wrDevCtl v) s = .next t) :
    t.cur = none ∧ t.intPending = false ∧ .cmdAbort c.opcode c.d ∈ t.trace := by
  obtain ⟨-, rfl⟩ := atomically_next.mp h
  rw [wrDevCtl_of_rise (s := s.setReply .none) hrise]
  refine ⟨(settle_cur _ _).trans (softResetAssert_cur _), settle_intPending _ _, ?_⟩
  rw [settle_eq_withTrace]
  simp [softResetAssert, abandonCommand, hc]

/-- Settles O37: the run before the last byte, that run and the last access, and the two ways an operation leaves the block
alone or abandons it. -/
theorem aBlockEndsAtItsLastByte : Obligations.ABlockEndsAtItsLastByte := by
  intro s c hl hc hp D widths moved
  have hs : ReadingBlock c s := ⟨hl, hc, hp⟩
  refine ⟨fun accesses hmem hlt => ?_, fun accesses last hmem hlast hlt hend => ?_, fun i t h hi => ?_⟩
  · obtain ⟨t, hrun, ht⟩ := exists_execAll_dataReads hmem hs hlt
    exact ⟨t, hrun, ht.cur.trans hc, ht.regs, ht.intPending, ht.trace, ht.dev⟩
  · obtain ⟨u, hrun, hu⟩ := exists_execAll_dataReads hmem hs hlt
    have hcursor : (u.dev c.d).pioCursor = D.pioCursor + moved accesses := congrArg Device.pioCursor hu.dev
    obtain ⟨t, hexec, hcur, hregs, hint, htrace, hdev⟩ :=
      exec_dataRead_last (hu.reading hs) hlast (hcursor ▸ hlt.le) (hcursor ▸ hend)
    exact ⟨t, execAll_concat hrun hexec, hcur, by rw [hregs, hu.regs], hint.trans hu.intPending,
      by rw [htrace, hu.trace], by rw [hdev, hu.dev]⟩
  · by_cases hreset : AssertsReset i s
    · obtain ⟨v, rfl, hrise⟩ := hreset
      exact .inr ⟨⟨v, rfl, hrise⟩, exec_wrDevCtl_abandons hc hrise h⟩
    · have hread : ¬ReadsData i := fun ⟨p, hmem, heq⟩ => hi p hmem heq
      have hblock := sameBlocks_of_exec hc hp hread hreset h c.d
      exact .inl ⟨exec_cur_of_reading hc hp hread hreset h, congrArg Prod.fst hblock, congrArg Prod.snd hblock⟩

end Sys2Proof.Machine
end

section
/-! PROOFS. The pending interrupt: every effect but a Status read, a Command write and the assertion of soft reset keeps it, and
these three clear it (60_exceptions R513; 41_register_access R214, R215; 70_reset_and_hazards R601). -/

namespace Sys2Proof.Machine

/-! ### Effects that keep a pending interrupt -/

/-- The effect clears no pending interrupt. -/
def KeepsPending (f : State → State) : Prop := ∀ s, s.intPending = true → (f s).intPending = true

theorem rdData_keepsPending (n : Width) : KeepsPending (rdData n) := by
  intro s hp
  unfold rdData
  split
  · exact hp
  · dsimp only
    split
    · simpa [pioInComplete] using hp
    · simpa using hp

theorem wrData_keepsPending (n : Width) (v : BitVec 32) : KeepsPending (wrData n v) := by
  intro s hp
  unfold wrData
  split
  · exact hp
  · dsimp only
    split
    · rfl
    · simpa using hp

theorem wrTask_keepsPending (reg : TaskReg) (v : Byte) : KeepsPending (wrTask reg v) := by
  intro s hp
  unfold wrTask
  split_ifs <;> exact hp

/-- The end of a window asserts the interrupt if a command is current, and else changes nothing. -/
theorem dmaComplete_keepsPending (ok : Bool) : KeepsPending (dmaComplete ok) := by
  intro s hp
  unfold dmaComplete
  split
  · exact hp
  · rfl

theorem afterSector_pending (d : Slot) (answer : Reply) {moved : Bool × State} (hp : moved.2.intPending = true) :
    (afterSector d answer moved).intPending = true := by
  unfold afterSector
  split_ifs
  · exact dmaComplete_keepsPending true _ hp
  · exact hp
  · exact dmaComplete_keepsPending false _ hp

theorem dmaReadSector_keepsPending (d : Slot) : KeepsPending (dmaReadSector d) := by
  intro s hp
  unfold dmaReadSector
  split
  · exact hp
  · refine afterSector_pending d _ ?_
    obtain ⟨s', rfl, -, -, h⟩ | ⟨s', rfl | rfl, h⟩ := readDmaSector_cases d s <;> simpa [h] using hp

theorem dmaWriteSector_keepsPending (d : Slot) (buf : List Byte) : KeepsPending (dmaWriteSector d buf) := by
  intro s hp
  unfold dmaWriteSector
  split
  · exact hp
  · split
    · refine afterSector_pending d _ ?_
      obtain ⟨-, -, h⟩ | ⟨-, -, h⟩ | ⟨-, h⟩ := writeDmaSector_cases d buf s <;> simpa [h] using hp
    · exact hp

theorem dmaAbort_keepsPending (d : Slot) : KeepsPending (dmaAbort d) := by
  intro s hp
  unfold dmaAbort
  split
  · exact hp
  · split
    · exact dmaComplete_keepsPending false _ hp
    · exact hp

/-- Only the assertion of soft reset clears the interrupt by a Device Control write (70_reset_and_hazards R601, R602). -/
theorem wrDevCtl_intPending {v : Byte} {s : State}
    (hrise : ¬(Machine.srst s.regs.devCtl = false ∧ Machine.srst v = true)) :
    (wrDevCtl v s).intPending = s.intPending := by
  by_cases hfall : Machine.srst s.regs.devCtl = true ∧ Machine.srst v = false
  · rw [wrDevCtl_of_fall hfall]
    rfl
  · rw [wrDevCtl_of_level hrise hfall]
    rfl

/-- A pending interrupt stays pending through every effect but those of the three acknowledging events. -/
theorem Effect.pending {i : Instr} {f : State → State} (h : Effect i f) {s : State} (hp : s.intPending = true) :
    (f s).intPending = true ∨ i = .rdStatus ∨ (∃ v, WritesCommand i v) ∨ AssertsReset i s := by
  cases h with
  | readStatus => exact .inr (.inl rfl)
  | command hi => exact .inr (.inr (.inl ⟨_, hi⟩))
  | writeDevCtl v =>
    by_cases hrise : Machine.srst s.regs.devCtl = false ∧ Machine.srst v = true
    · exact .inr (.inr (.inr ⟨v, rfl, hrise⟩))
    · exact .inl ((wrDevCtl_intPending hrise).trans hp)
  | readData => exact .inl (rdData_keepsPending _ s hp)
  | writeData => exact .inl (wrData_keepsPending _ _ s hp)
  | readReg | refuse | query => exact .inl hp
  | writeTask => exact .inl (wrTask_keepsPending _ _ s hp)
  | readSector => exact .inl (dmaReadSector_keepsPending _ s hp)
  | writeSector => exact .inl (dmaWriteSector_keepsPending _ _ s hp)
  | abort => exact .inl (dmaAbort_keepsPending _ s hp)
  | mediumChange | attach => exact .inl ((State.setDev_intPending _ _ _).trans hp)

/-! ### The three acknowledging events -/

/-- An operation after which a pending interrupt is gone is one of the three (60_exceptions R513). -/
theorem acknowledges_of_exec {i : Instr} {s t : State} (h : exec i s = .next t) (hp : s.intPending = true)
    (ht : t.intPending = false) : i = .rdStatus ∨ (∃ v, WritesCommand i v) ∨ AssertsReset i s := by
  obtain ⟨f, hf, -, -, rfl⟩ := exec_next h
  rw [settle_intPending] at ht
  obtain hkept | hack := hf.pending (s := s.setReply .none) hp
  · exact absurd (hkept.symm.trans ht) (by decide)
  · exact hack

/-- The assertion of soft reset clears the interrupt (70_reset_and_hazards R601). -/
theorem exec_wrDevCtl_acknowledges {s : State} {v : Byte} (hl : s.live)
    (hrise : s.regs.devCtl.getLsbD 2 = false ∧ v.getLsbD 2 = true) :
    ∃ t, exec (.wrDevCtl v) s = .next t ∧ t.intPending = false := by
  refine ⟨_, atomically_live (f := wrDevCtl v) hl, ?_⟩
  rw [wrDevCtl_of_rise (s := s.setReply .none) hrise]
  exact settle_intPending _ _

/-- SECURITY UNLOCK opens its data phase without an interrupt, so what stands after it is the acknowledgement by the Command
write (43_ata_commands R325). -/
theorem exec_wrCommand_unlock_acknowledges {s : State} (h : s.idle) :
    ∃ t, exec (.wrCommand 0xF2) s = .next t ∧ t.intPending = false := by
  have hrun : dispatch 0xF2 = startCommand 0xF2 .pioOut securityUnlock := rfl
  refine ⟨_, exec_wrCommand_of_idle h 0xF2, ?_⟩
  rw [settle_intPending, hrun, startCommand, securityUnlock, enterDataPhase_intPending, State.setDev_intPending]
  rfl

/-- A Command write acknowledges before its command runs: the trace's edge apart, it answers the same whether an interrupt was
pending or not (41_register_access R215). -/
theorem exec_wrCommand_forgets_pending {s : State} (h : s.idle) (v : Byte) (b : Bool) :
    ∃ t u, exec (.wrCommand v) s = .next t ∧ exec (.wrCommand v) { s with intPending := b } = .next u
      ∧ t.withTrace [] = u.withTrace [] := by
  have hlatched : ({ s with intPending := b } : State).latched v = s.latched v := rfl
  refine ⟨_, _, exec_wrCommand_of_idle h v, exec_wrCommand_of_idle (s := { s with intPending := b }) h v, ?_⟩
  rw [hlatched, settle_eq_withTrace, settle_eq_withTrace, State.withTrace_withTrace, State.withTrace_withTrace]

/-- Settles O16: by the effects that keep a pending interrupt, and by what each of the three events leaves. -/
theorem interruptAcknowledgement : Obligations.InterruptAcknowledgement := by
  intro s hl hp
  refine ⟨fun i t h ht => ?_, ⟨_, exec_rdStatus hl, rfl⟩, fun hs v hv => exec_wrDevCtl_acknowledges hl ⟨hs, hv⟩,
    fun hs hc => ?_, ⟨_, atomically_rdReg hl _, hp⟩⟩
  · obtain hstatus | ⟨v, hcommand | ⟨hformat, -⟩⟩ | hreset := acknowledges_of_exec h hp ht
    · exact .inl hstatus
    · exact .inr (.inr (.inl ⟨v, hcommand⟩))
    · exact .inr (.inl hformat)
    · exact .inr (.inr (.inr hreset))
  · have hidle : s.idle := ⟨hl, hs, hc⟩
    exact ⟨exec_wrCommand_unlock_acknowledges hidle, fun v => exec_wrCommand_forgets_pending hidle v false⟩

end Sys2Proof.Machine
end

section
/-! PROOFS. The well-formed operations that can be refused: the accesses without a meaning, and the command bytes without a
handler (30_encoding R100, R120 to R124; 41_register_access R219; 42_command_engine R262). -/

namespace Sys2Proof

/-- Every access with a meaning has a row: Data at each width, offsets 1 to 7 and control offset 6 at one byte (30_encoding
R123). -/
theorem pack_mem_namedPortCodes {p : PortCode} (hcode : p.nCode ≠ 3) (h : ¬p.Meaningless p.widthBytes) :
    p.pack ∈ namedPortCodes := by
  have hdata : ∀ (dir : BitVec 1) (n : BitVec 2), n ≠ 3 → PortCode.pack ⟨0, dir, n, 0, 0⟩ ∈ namedPortCodes := by decide
  have htask : ∀ (dir : BitVec 1) (off : BitVec 3), PortCode.pack ⟨0, dir, 0, 0, off⟩ ∈ namedPortCodes := by decide
  have hcontrol : ∀ dir : BitVec 1, PortCode.pack ⟨1, dir, 0, 0, 6⟩ ∈ namedPortCodes := by decide
  have hbit : ∀ b : BitVec 1, b = 0 ∨ b = 1 := by decide
  obtain ⟨blk, dir, nCode, zero, off⟩ := p
  have hone : PortCode.widthBytes ⟨blk, dir, nCode, zero, off⟩ = 1 → nCode = 0 := by
    unfold PortCode.widthBytes
    split_ifs <;> simp_all
  simp only [PortCode.Meaningless, not_or, not_and, not_not] at h
  obtain ⟨-, hwide, hoff, hzero⟩ := h
  obtain rfl : zero = 0 := (hbit zero).resolve_right hzero
  obtain rfl | rfl := hbit blk
  · by_cases hoff0 : off = 0
    · subst hoff0
      exact hdata dir nCode hcode
    · obtain rfl : nCode = 0 := hone (by_contra fun hne => hwide hne fun _ => hoff0)
      exact htask dir off
  · obtain rfl : off = 6 := hoff rfl
    obtain rfl : nCode = 0 := hone (by_contra fun hne => hwide hne (nofun))
    exact hcontrol dir

/-- A well-formed access of the reserved width code has a width without a code (30_encoding R100). -/
theorem width_of_wellFormed {blk dir zero : BitVec 1} {off n : BitVec 3}
    (h : (Instr.refusedWidth blk dir zero off n).wellFormed = true) : n.toNat ≠ 1 ∧ n.toNat ≠ 2 ∧ n.toNat ≠ 4 := by
  obtain ⟨h1, h2, h4⟩ : n ≠ 1 ∧ n ≠ 2 ∧ n ≠ 4 := by simpa [Instr.wellFormed, and_assoc] using h
  bv_omega

/-- A well-formed refused access has no meaning, by a cause other than the reserved width code (41_register_access R219). -/
theorem meaningless_of_wellFormed {p : PortCode} (h : (Instr.refusedAccess p).wellFormed = true) :
    (p.widthBytes ≠ 1 ∧ ¬(p.blk = 0 ∧ p.off = 0)) ∨ (p.blk = 1 ∧ p.off ≠ 6) ∨ p.zero = 1 := by
  obtain ⟨hcode, hnamed⟩ : p.nCode ≠ 3 ∧ p.pack ∉ namedPortCodes := by simpa [Instr.wellFormed] using h
  have hmeaningless : p.Meaningless p.widthBytes := by_contra fun hnot => hnamed (pack_mem_namedPortCodes hcode hnot)
  exact hmeaningless.resolve_left hcode

end Sys2Proof
end

section
/-! PROOFS. What an operation records and which device it touches: it faults or is refused by a cause of its own, or it acts on
the one device that the current command or the next one concerns (60_exceptions R530 to R533, R538). -/

namespace Sys2Proof.Machine

/-! ### The causes -/

/-- The operation writes a task-file register (41_register_access R216). -/
def WritesTaskFile (i : Instr) : Prop := ∃ (reg : TaskReg) (v : Byte), i = reg.write v

/-- Why an operation faults (60_exceptions R532). -/
inductive FaultCause (i : Instr) (s : State) : FaultReason → Prop where
  /-- A write of offset 1 to 7, or a command, in soft reset. -/
  | duringReset (hs : s.srst = true) (hi : WritesTaskFile i ∨ ∃ v, WritesCommand i v) :
      FaultCause i s .hostWriteDuringReset
  /-- A command while one is in flight. -/
  | commandInFlight (hc : s.cur ≠ none) (v : Byte) (hi : WritesCommand i v) : FaultCause i s .commandWhileInFlight
  /-- A task-file write while a command is in flight. -/
  | taskWriteInFlight (hc : s.cur ≠ none) (hi : WritesTaskFile i) : FaultCause i s .taskFileWriteInDataPhase
  /-- A sector transfer without an armed window. -/
  | noWindow (d : Slot) (hi : i = .dmaReadSector d ∨ ∃ buf, i = .dmaWriteSector d buf) (h : ¬s.Armed d) :
      FaultCause i s .dmaNoActiveWindow
  /-- A sector read from a write window. -/
  | readMismatch (d : Slot) (hi : i = .dmaReadSector d) (h : (s.dev d).dma.isWrite = true) :
      FaultCause i s .dmaDirectionMismatch
  /-- A sector write to a read window. -/
  | writeMismatch (d : Slot) (buf : List Byte) (hi : i = .dmaWriteSector d buf) (h : (s.dev d).dma.isWrite = false) :
      FaultCause i s .dmaDirectionMismatch
  /-- A buffer that is not one sector. -/
  | badBuffer (d : Slot) (buf : List Byte) (hi : i = .dmaWriteSector d buf)
      (h : buf.length ≠ (s.dev d).driver.sectorSize) : FaultCause i s .dmaBadSectorBuffer

/-- Why an operation is refused (60_exceptions R533). -/
inductive RefusalCause (i : Instr) (s : State) : RefuseReason → Prop where
  /-- An access of a width that is no width of the channel. -/
  | width (blk dir zero : BitVec 1) (off n : BitVec 3) (hi : i = .refusedWidth blk dir zero off n) :
      RefusalCause i s (.badRegisterAccess blk off dir n.toNat)
  /-- An access whose code has no row. -/
  | access (p : PortCode) (hi : i = .refusedAccess p) :
      RefusalCause i s (.badRegisterAccess p.blk p.off p.dir p.widthBytes)
  /-- PACKET. -/
  | packet (hi : i = .packet ∨ i = .wrCommand 0xA0) : RefusalCause i s .packetCommand
  /-- An unsupported byte while `UNSUPPORTED_ABORTS` is false. -/
  | unsupported (v : Byte) (hi : WritesCommand i v) (hab : s.unsupportedAborts = false)
      (hwf : i.wellFormed = true → v ∉ admittedCodes ∧ v ≠ 0xA0) : RefusalCause i s (.unsupportedCommand v)

/-- The device that an operation of the host or the bus master can touch: that of the command in flight, and else the one
selected for the next command (42_command_engine R250). -/
def State.concerned (s : State) : Slot :=
  match s.cur with
  | some c => c.d
  | none => s.selected

theorem concerned_of_cur {s : State} {c : Command} (h : s.cur = some c) : s.concerned = c.d := by
  rw [State.concerned, h]

theorem concerned_of_cur_none {s : State} (h : s.cur = none) : s.concerned = s.selected := by
  rw [State.concerned, h]

/-- A device that the state does not concern is the other one. -/
theorem eq_other_of_not_concerned {s : State} {d : Slot} (hcur : ∀ c, s.cur = some c → c.d ≠ d)
    (hsel : s.cur = none → s.selected ≠ d) : d = s.concerned.other := by
  have hne : s.concerned ≠ d := by
    cases hc : s.cur with
    | some c => exact concerned_of_cur hc ▸ hcur c hc
    | none => exact concerned_of_cur_none hc ▸ hsel hc
  revert hne
  cases s.concerned <;> cases d <;> simp [Slot.other]

/-- What the effect of one operation records, and whom it touches. -/
inductive Records (i : Instr) (s : State) : State → Prop where
  /-- A fault, with all else as it was. -/
  | faulted (r : FaultReason) (h : FaultCause i s r) : Records i s (s.raiseFault r)
  /-- A refusal, with both devices as they were. -/
  | refused {t : State} (r : RefuseReason) (h : RefusalCause i s r) (hfault : t.fault = s.fault)
      (hrefused : t.refused = some r) (hdev : ∀ d, t.dev d = s.dev d) : Records i s t
  /-- Neither, and at most the device concerned changed. -/
  | acted {t : State} (h : ActsOn s.concerned s t) : Records i s t
  /-- Neither, by Device Control or by the environment. -/
  | settled {t : State} (hi : (∃ v, i = .wrDevCtl v) ∨ (encode i).format = .env) (hfault : t.fault = s.fault)
      (hrefused : t.refused = s.refused) : Records i s t

/-! ### Updates that act on no other device -/

theorem actsOn_refl (d : Slot) (s : State) : ActsOn d s s := ⟨rfl, rfl, rfl⟩

theorem actsOn_setReply (d : Slot) (s : State) (r : Reply) : ActsOn d s (s.setReply r) := ⟨rfl, rfl, by simp⟩

theorem actsOn_setRegs (d : Slot) (s : State) (r : Regs) : ActsOn d s (s.setRegs r) := ⟨rfl, rfl, by simp⟩

theorem actsOn_setInt (d : Slot) (s : State) (b : Bool) : ActsOn d s (s.setInt b) := ⟨rfl, rfl, by simp⟩

theorem actsOn_skipDraws (d : Slot) (s : State) (n : Nat) : ActsOn d s (s.skipDraws n) := ⟨rfl, rfl, by simp⟩

theorem actsOn_afterBackendCall (d : Slot) (s : State) : ActsOn d s s.afterBackendCall := ⟨rfl, rfl, by simp⟩

theorem actsOn_pioInComplete (d : Slot) (c : Command) (s : State) : ActsOn d s (pioInComplete c s) :=
  ⟨rfl, rfl, by simp [pioInComplete]⟩

/-! ### Register accesses -/

theorem actsOn_rdData (n : Width) (s : State) : ActsOn s.concerned s (rdData n s) := by
  unfold rdData
  split
  · exact ((actsOn_emit _ s _).trans (actsOn_setReply _ _ _)).trans (actsOn_skipDraws _ _ _)
  next c hphase =>
    rw [concerned_of_cur (openPhase_eq_some.mp hphase).1]
    have hread (r : Reply) (k : Nat) (D : Device) : ActsOn c.d s (((s.setReply r).skipDraws k).setDev c.d D) :=
      ((actsOn_setReply c.d s r).trans (actsOn_skipDraws c.d _ k)).trans (actsOn_setDev c.d _ D)
    dsimp only
    split
    · exact (hread _ _ _).trans (actsOn_pioInComplete c.d c _)
    · exact hread _ _ _

theorem actsOn_wrData (n : Width) (v : BitVec 32) (s : State) : ActsOn s.concerned s (wrData n v s) := by
  unfold wrData
  split
  · exact actsOn_emit _ s _
  next c hphase =>
    rw [concerned_of_cur (openPhase_eq_some.mp hphase).1]
    have hwrite := actsOn_setDev c.d s ((s.dev c.d).writeBuffer v n.bytes)
    dsimp only
    split
    · exact hwrite.trans ((actsOn_setDev c.d _ _).trans (actsOn_complete c.d c _ _))
    · exact hwrite

theorem wrTask_records (reg : TaskReg) (v : Byte) (s : State) : Records (reg.write v) s (wrTask reg v s) := by
  have hi : WritesTaskFile (reg.write v) := ⟨reg, v, rfl⟩
  unfold wrTask
  split_ifs with hs hc
  · exact .faulted _ (.duringReset hs (.inl hi))
  · exact .faulted _ (.taskWriteInFlight (Option.isSome_iff_ne_none.mp hc) hi)
  · exact .acted (actsOn_setRegs _ s _)

theorem wrDevCtl_records (v : Byte) (s : State) : Records (.wrDevCtl v) s (wrDevCtl v s) := by
  have habandon (u : State) : (abandonCommand u).fault = u.fault ∧ (abandonCommand u).refused = u.refused := by
    unfold abandonCommand
    split <;> exact ⟨rfl, rfl⟩
  by_cases hrise : Machine.srst s.regs.devCtl = false ∧ Machine.srst v = true
  · rw [wrDevCtl_of_rise hrise]
    obtain ⟨hfault, hrefused⟩ := habandon (s.setRegs { s.regs with devCtl := v })
    exact .settled (.inl ⟨v, rfl⟩) hfault hrefused
  by_cases hfall : Machine.srst s.regs.devCtl = true ∧ Machine.srst v = false
  · rw [wrDevCtl_of_fall hfall]
    exact .settled (.inl ⟨v, rfl⟩) rfl rfl
  · rw [wrDevCtl_of_level hrise hfall]
    exact .settled (.inl ⟨v, rfl⟩) rfl rfl

theorem refuse_records {i : Instr} {s : State} {r : RefuseReason} (h : RefusalCause i s r) : Records i s (s.refuse r) :=
  .refused r h rfl rfl (by simp)

/-! ### The bus master -/

/-- The window check answers a fault by its cause, and else the device is the one concerned (44_dma_engine R384). -/
theorem checkWindow_cases (d : Slot) (isWrite : Bool) (s : State) :
    (¬s.Armed d ∧ checkWindow d isWrite s = some .dmaNoActiveWindow)
      ∨ ((s.dev d).dma.isWrite ≠ isWrite ∧ checkWindow d isWrite s = some .dmaDirectionMismatch)
      ∨ (s.concerned = d ∧ checkWindow d isWrite s = none) := by
  by_cases harmed : s.Armed d
  · by_cases hdir : (s.dev d).dma.isWrite = isWrite
    · obtain ⟨c, hc, hdma, hd, hact⟩ := harmed
      exact .inr (.inr ⟨(concerned_of_cur hc).trans hd, checkWindow_eq_none.mpr ⟨c, hc, hdma, hd, hact, hdir⟩⟩)
    · exact .inr (.inl ⟨hdir, checkWindow_of_direction harmed hdir⟩)
  · exact .inl ⟨harmed, checkWindow_of_not_armed harmed isWrite⟩

/-- The end of a window touches the device concerned alone. -/
theorem actsOn_dmaComplete (ok : Bool) (s : State) : ActsOn s.concerned s (dmaComplete ok s) := by
  cases hc : s.cur with
  | none =>
    rw [dmaComplete, hc]
    exact actsOn_refl _ s
  | some c =>
    rw [dmaComplete_of_cur hc, concerned_of_cur hc]
    exact (actsOn_setDev c.d s _).trans (actsOn_complete c.d c ok _)

theorem concerned_congr {s t : State} (hcur : t.cur = s.cur) (hregs : t.regs = s.regs) : t.concerned = s.concerned := by
  rw [State.concerned, State.concerned, hcur, State.selected, State.selected, hregs]

theorem actsOn_afterSector (d : Slot) (answer : Reply) (moved : Bool × State) :
    ActsOn moved.2.concerned moved.2 (afterSector d answer moved) := by
  unfold afterSector
  split_ifs
  · exact (actsOn_dmaComplete true _).trans (actsOn_setReply _ _ _)
  · exact actsOn_setReply _ _ _
  · exact (actsOn_dmaComplete false _).trans (actsOn_setReply _ _ _)

/-- A sector transfer through a window of the device concerned touches that device alone. -/
theorem actsOn_sector {d : Slot} {s : State} {moved : Bool × State} (hd : s.concerned = d) (hmove : ActsOn d s moved.2)
    (hcur : moved.2.cur = s.cur) (hregs : moved.2.regs = s.regs) (answer : Reply) :
    ActsOn s.concerned s (afterSector d answer moved) := by
  have hafter := actsOn_afterSector d answer moved
  rw [concerned_congr hcur hregs, hd] at hafter
  rw [hd]
  exact hmove.trans hafter

theorem actsOn_readDmaSector (d : Slot) (s : State) : ActsOn d s (readDmaSector d s).2 := by
  obtain ⟨s', rfl, -, -, h⟩ | ⟨s', rfl | rfl, h⟩ := readDmaSector_cases d s
  · rw [h]
    exact ((actsOn_afterBackendCall d s).trans (actsOn_emit d _ _)).trans (actsOn_setDev d _ _)
  · rw [h]
    exact actsOn_emit d _ _
  · rw [h]
    exact (actsOn_afterBackendCall d s).trans (actsOn_emit d _ _)

theorem actsOn_writeDmaSector (d : Slot) (buf : List Byte) (s : State) : ActsOn d s (writeDmaSector d buf s).2 := by
  obtain ⟨-, -, h⟩ | ⟨-, -, h⟩ | ⟨-, h⟩ := writeDmaSector_cases d buf s
  · rw [h]
    exact ((actsOn_afterBackendCall d s).trans (actsOn_emit d _ _)).trans (actsOn_setDev d _ _)
  · rw [h]
    exact (((actsOn_afterBackendCall d s).trans (actsOn_emit d _ _)).trans (actsOn_setDev d _ _)).trans
      (actsOn_skipDraws d _ _)
  · rw [h]
    exact actsOn_emit d _ _

theorem readDmaSector_regs (d : Slot) (s : State) : (readDmaSector d s).2.regs = s.regs := by
  obtain ⟨s', rfl, -, -, h⟩ | ⟨s', rfl | rfl, h⟩ := readDmaSector_cases d s <;> simp [h]

theorem writeDmaSector_regs (d : Slot) (buf : List Byte) (s : State) : (writeDmaSector d buf s).2.regs = s.regs := by
  obtain ⟨-, -, h⟩ | ⟨-, -, h⟩ | ⟨-, h⟩ := writeDmaSector_cases d buf s <;> simp [h]

theorem dmaReadSector_records (d : Slot) (s : State) : Records (.dmaReadSector d) s (dmaReadSector d s) := by
  unfold dmaReadSector
  obtain ⟨harmed, h⟩ | ⟨hdir, h⟩ | ⟨hd, h⟩ := checkWindow_cases d false s
  · rw [h]
    exact .faulted _ (.noWindow d (.inl rfl) harmed)
  · rw [h]
    exact .faulted _ (.readMismatch d rfl (Bool.not_eq_false _ ▸ hdir))
  · rw [h]
    exact .acted (actsOn_sector hd (actsOn_readDmaSector d s) (readDmaSector_cur d s) (readDmaSector_regs d s) _)

theorem dmaWriteSector_records (d : Slot) (buf : List Byte) (s : State) :
    Records (.dmaWriteSector d buf) s (dmaWriteSector d buf s) := by
  unfold dmaWriteSector
  obtain ⟨harmed, h⟩ | ⟨hdir, h⟩ | ⟨hd, h⟩ := checkWindow_cases d true s
  · rw [h]
    exact .faulted _ (.noWindow d (.inr ⟨buf, rfl⟩) harmed)
  · rw [h]
    exact .faulted _ (.writeMismatch d buf rfl (Bool.not_eq_true _ ▸ hdir))
  · rw [h]
    dsimp only
    split_ifs with hlen
    · exact .acted
        (actsOn_sector hd (actsOn_writeDmaSector d buf s) (writeDmaSector_cur d buf s) (writeDmaSector_regs d buf s) _)
    · exact .faulted _ (.badBuffer d buf rfl hlen)

theorem actsOn_dmaAbort (d : Slot) (s : State) : ActsOn s.concerned s (dmaAbort d s) := by
  unfold dmaAbort
  split
  · exact actsOn_emit _ s _
  · split
    · exact (actsOn_emit _ s _).trans (actsOn_dmaComplete false (s.diag .dmaAborted))
    · exact actsOn_emit _ s _

/-! ### The commands -/

/-- Run on an idle channel, the command acts on the selected device, or it is refused with all else as it was. -/
def ActsOrRefuses (i : Instr) (run : State → State) : Prop :=
  ∀ s, ActsOn s.selected s (run s) ∨ ∃ r, RefusalCause i s r ∧ run s = s.refuse r

theorem unsupportedCommand_actsOrRefuses {i : Instr} {v : Byte} (hi : WritesCommand i v)
    (hwf : i.wellFormed = true → v ∉ admittedCodes ∧ v ≠ 0xA0) : ActsOrRefuses i (unsupportedCommand v) := by
  intro s
  cases hab : s.unsupportedAborts with
  | true => exact .inl (actsOn_unsupportedCommand hab)
  | false => exact .inr ⟨_, .unsupported v hi hab hwf, unsupportedCommand_of_refused hab⟩

theorem packet_actsOrRefuses {i : Instr} (hi : i = .packet ∨ i = .wrCommand 0xA0) : ActsOrRefuses i packet :=
  fun _ => .inr ⟨_, .packet hi, rfl⟩

theorem dispatch_actsOrRefuses (v : Byte) : ActsOrRefuses (.wrCommand v) (dispatch v) := by
  obtain ⟨-, -, hact⟩ | ⟨rfl, hrun⟩ | ⟨hadm, hne, hrun⟩ := dispatch_cases v
  · exact fun s => .inl (hact s)
  · rw [hrun]
    exact packet_actsOrRefuses (.inr rfl)
  · rw [hrun]
    exact unsupportedCommand_actsOrRefuses (.inl rfl) fun _ => ⟨hadm, hne⟩

/-- A refusal has its cause in the latched state exactly as before the Command write. -/
theorem RefusalCause.of_latched {i : Instr} {s : State} {v : Byte} {r : RefuseReason}
    (h : RefusalCause i ((s.setRegs { s.regs with command := v }).setInt false) r) : RefusalCause i s r := by
  cases h with
  | width blk dir zero off n hi => exact .width blk dir zero off n hi
  | access p hi => exact .access p hi
  | packet hi => exact .packet hi
  | unsupported v hi hab hwf => exact .unsupported v hi hab hwf

theorem commandEffect_records {i : Instr} {v : Byte} {run : State → State} (hi : WritesCommand i v)
    (hrun : ActsOrRefuses i run) (s : State) : Records i s (commandEffect v run s) := by
  unfold commandEffect
  split_ifs with hs hc
  · exact .faulted _ (.duringReset hs (.inr ⟨v, hi⟩))
  · exact .faulted _ (.commandInFlight (Option.isSome_iff_ne_none.mp hc) v hi)
  · obtain hact | ⟨r, hcause, heq⟩ := hrun ((s.setRegs { s.regs with command := v }).setInt false)
    · have hsel : s.concerned = ((s.setRegs { s.regs with command := v }).setInt false).selected :=
        concerned_of_cur_none (by simpa using hc)
      rw [← hsel] at hact
      exact .acted (((actsOn_setRegs _ s _).trans (actsOn_setInt _ _ false)).trans hact)
    · rw [heq]
      exact .refused r hcause.of_latched rfl rfl (by simp)

/-! ### Every operation -/

/-- From `s` to `t` the operation ran one effect that records as `Records` says, and settled the interrupt line. -/
def RecordsStep (i : Instr) (s t : State) : Prop := ∃ u, Records i (s.setReply .none) u ∧ t = u.settle s

theorem RecordsStep.of_atomically {i : Instr} {f : State → State} {s t : State} (hf : ∀ s, Records i s (f s))
    (h : atomically f s = .next t) : RecordsStep i s t :=
  ⟨_, hf _, (atomically_next.mp h).2⟩

/-- An atomic operation that acts on the device concerned. -/
theorem RecordsStep.of_actsOn {i : Instr} {f : State → State} {s t : State} (hf : ∀ s, ActsOn s.concerned s (f s))
    (h : atomically f s = .next t) : RecordsStep i s t :=
  .of_atomically (fun s => .acted (hf s)) h

theorem RecordsStep.of_commandWrite {i : Instr} {v : Byte} {run : State → State} {s t : State} (hi : WritesCommand i v)
    (hrun : ActsOrRefuses i run) (h : commandWrite v run s = .next t) : RecordsStep i s t :=
  .of_atomically (commandEffect_records hi hrun) h

/-- An admitted command acts on the device it starts on (42_command_engine R250). -/
theorem RecordsStep.of_startCommand {i : Instr} {v : Byte} {proto : Proto} {execute : Command → State → State}
    {s t : State} (hi : WritesCommand i v) (hrun : ∀ c s, ActsOn c.d s (execute c s))
    (h : commandWrite v (startCommand v proto execute) s = .next t) : RecordsStep i s t :=
  .of_commandWrite hi (fun s => .inl (actsOn_startCommand hrun s)) h

theorem RecordsStep.of_unsupportedCommand {i : Instr} {v : Byte} {s t : State} (hi : WritesCommand i v)
    (hwf : i.wellFormed = true → v ∉ admittedCodes ∧ v ≠ 0xA0)
    (h : commandWrite v (unsupportedCommand v) s = .next t) : RecordsStep i s t :=
  .of_commandWrite hi (unsupportedCommand_actsOrRefuses hi hwf) h

/-- An environment operation records nothing (40_driver_capability R170, R172). -/
theorem RecordsStep.of_whenAllowed_setDev {i : Instr} {allowed : Bool} {d : Slot} {g : Device → Device} {s t : State}
    (hi : (encode i).format = .env) (h : whenAllowed allowed (fun s => s.setDev d (g (s.dev d))) s = .next t) :
    RecordsStep i s t :=
  ⟨_, .settled (.inr hi) (State.setDev_fault _ _ _) (State.setDev_refused _ _ _), (whenAllowed_next.mp h).2.2⟩

/-- An unlisted command byte is neither admitted nor PACKET (30_encoding R120, R122). -/
theorem unsupportedOther_of_wellFormed {v : Byte} (h : (Instr.unsupportedOther v).wellFormed = true) :
    v ∉ admittedCodes ∧ v ≠ 0xA0 := by
  have hv : v ∉ namedCommandCodes := by simpa [Instr.wellFormed] using h
  have hadmitted : admittedCodes ⊆ namedCommandCodes := by decide
  exact ⟨fun hmem => hv (hadmitted hmem), fun heq => hv (heq ▸ by decide)⟩

/-- What any operation records, and whom it touches. -/
theorem exec_records {i : Instr} {s t : State} (h : exec i s = .next t) : RecordsStep i s t := by
  cases i with
  | rdDataB | rdDataW | rdDataD => exact .of_actsOn (actsOn_rdData _) h
  | wrDataB | wrDataW | wrDataD => exact .of_actsOn (actsOn_wrData _ _) h
  | rdError | rdSectorCount | rdSectorNumber | rdCylLow | rdCylHigh | rdDeviceHead | rdAltStatus =>
    exact .of_actsOn (f := rdReg _) (fun s => actsOn_setReply _ s _) h
  | rdStatus => exact .of_actsOn (f := rdStatus) (fun s => (actsOn_setReply _ s _).trans (actsOn_setInt _ _ false)) h
  | dmaQuery d => exact .of_actsOn (f := dmaQuery d) (fun s => actsOn_setReply _ s _) h
  | wrFeatures v => exact .of_atomically (wrTask_records .features v) h
  | wrSectorCount v => exact .of_atomically (wrTask_records .sectorCount v) h
  | wrSectorNumber v => exact .of_atomically (wrTask_records .sectorNumber v) h
  | wrCylLow v => exact .of_atomically (wrTask_records .cylLow v) h
  | wrCylHigh v => exact .of_atomically (wrTask_records .cylHigh v) h
  | wrDeviceHead v => exact .of_atomically (wrTask_records .devHead v) h
  | wrDevCtl v => exact .of_atomically (wrDevCtl_records v) h
  | refusedWidth blk dir zero off n =>
    exact .of_atomically (f := (·.refuse _)) (fun s => refuse_records (.width blk dir zero off n rfl)) h
  | refusedAccess p => exact .of_atomically (f := (·.refuse _)) (fun s => refuse_records (.access p rfl)) h
  | dmaReadSector d => exact .of_atomically (dmaReadSector_records d) h
  | dmaWriteSector d buf => exact .of_atomically (dmaWriteSector_records d buf) h
  | dmaAbort d => exact .of_actsOn (actsOn_dmaAbort d) h
  | mediumChange d present capacity img => exact .of_whenAllowed_setDev (g := (·.changeMedium _)) rfl h
  | attach d drv => exact .of_whenAllowed_setDev (g := (·.attach drv)) rfl h
  | wrCommand v => exact .of_commandWrite (.inl rfl) (dispatch_actsOrRefuses v) h
  | identifyDevice => exact .of_startCommand (.inr ⟨rfl, rfl⟩) actsOn_identifyDevice h
  | identifyPacketDevice => exact .of_startCommand (.inr ⟨rfl, rfl⟩) actsOn_identifyPacketDevice h
  | initializeDeviceParameters => exact .of_startCommand (.inr ⟨rfl, rfl⟩) actsOn_initializeDeviceParameters h
  | setFeatures => exact .of_startCommand (.inr ⟨rfl, rfl⟩) actsOn_setFeatures h
  | securityUnlock => exact .of_startCommand (.inr ⟨rfl, rfl⟩) actsOn_securityUnlock h
  | readDma => exact .of_startCommand (.inr ⟨rfl, rfl⟩) (actsOn_dmaCommand false) h
  | writeDma => exact .of_startCommand (.inr ⟨rfl, rfl⟩) (actsOn_dmaCommand true) h
  | packet => exact .of_commandWrite (.inr ⟨rfl, rfl⟩) (packet_actsOrRefuses (.inl rfl)) h
  | unsupportedOther v => exact .of_unsupportedCommand (.inr ⟨rfl, rfl⟩) unsupportedOther_of_wellFormed h
  | _ => exact .of_unsupportedCommand (.inr ⟨rfl, rfl⟩) (fun _ => by decide) h

end Sys2Proof.Machine
end

section
/-! PROOFS. The device that no command concerns, the causes of each fault and of each refusal, read off what an operation records
(60_exceptions R530 to R533, R538; 40_driver_capability R169; 41_register_access R219; 42_command_engine R262). -/

namespace Sys2Proof.Machine

/-! ### The other device -/

/-- Settles O20: the device is the one that the state does not concern, and no case of `Records` but that of Device Control and
the environment touches it. -/
theorem theOtherDeviceIsUntouched : Obligations.TheOtherDeviceIsUntouched := by
  intro i s t d h hcur hsel hctl henv
  obtain ⟨u, hu, rfl⟩ := exec_records h
  obtain rfl : d = s.concerned.other := eq_other_of_not_concerned hcur hsel
  rw [settle_dev, ← State.setReply_dev s .none]
  cases hu with
  | faulted r hr => exact State.raiseFault_dev _ _ _
  | refused r hr hfault hrefused hdev => exact hdev _
  | acted hact => exact hact.other
  | settled hi => exact absurd hi (not_or.mpr ⟨fun ⟨v, hv⟩ => hctl v hv, henv⟩)

/-! ### Faults -/

/-- A cause of a fault does not depend on what the last operation returned. -/
theorem FaultCause.of_setReply {i : Instr} {s : State} {q : Reply} {r : FaultReason} (h : FaultCause i (s.setReply q) r) :
    FaultCause i s r := by
  cases h with
  | duringReset hs hi => exact .duringReset hs hi
  | commandInFlight hc v hi => exact .commandInFlight hc v hi
  | taskWriteInFlight hc hi => exact .taskWriteInFlight hc hi
  | noWindow d hi h => exact .noWindow d hi (by simpa [State.Armed] using h)
  | readMismatch d hi h => exact .readMismatch d hi (by simpa using h)
  | writeMismatch d buf hi h => exact .writeMismatch d buf hi (by simpa using h)
  | badBuffer d buf hi h => exact .badBuffer d buf hi (by simpa using h)

/-- A step after which a fault is recorded records it by its cause and changes nothing else (60_exceptions R530). -/
theorem fault_of_exec {i : Instr} {s t : State} {r : FaultReason} (h : exec i s = .next t) (hr : t.fault = some r) :
    FaultCause i s r ∧ t = { s with fault := some r, reply := .none } := by
  have hlive : s.fault = none := (live_of_exec h).1
  obtain ⟨u, hu, rfl⟩ := exec_records h
  rw [settle_fault] at hr
  have hnone (hfault : u.fault = s.fault) : False := by simp [hfault, hlive] at hr
  cases hu with
  | faulted r' hcause =>
    obtain rfl : r' = r := Option.some.inj hr
    exact ⟨hcause.of_setReply, settle_of_irq_eq rfl⟩
  | refused _ _ hfault => exact (hnone hfault).elim
  | acted hact => exact (hnone hact.fault).elim
  | settled _ hfault => exact (hnone hfault).elim

/-- The writes of the task file, one by one (41_register_access R216). -/
theorem writesTaskFile_iff {i : Instr} :
    WritesTaskFile i ↔ (∃ v, i = .wrFeatures v) ∨ (∃ v, i = .wrSectorCount v) ∨ (∃ v, i = .wrSectorNumber v)
      ∨ (∃ v, i = .wrCylLow v) ∨ (∃ v, i = .wrCylHigh v) ∨ ∃ v, i = .wrDeviceHead v := by
  constructor
  · rintro ⟨reg, v, rfl⟩
    cases reg <;> simp [TaskReg.write]
  · rintro (⟨v, rfl⟩ | ⟨v, rfl⟩ | ⟨v, rfl⟩ | ⟨v, rfl⟩ | ⟨v, rfl⟩ | ⟨v, rfl⟩)
    · exact ⟨.features, v, rfl⟩
    · exact ⟨.sectorCount, v, rfl⟩
    · exact ⟨.sectorNumber, v, rfl⟩
    · exact ⟨.cylLow, v, rfl⟩
    · exact ⟨.cylHigh, v, rfl⟩
    · exact ⟨.devHead, v, rfl⟩

/-- A write of the Command register is a command or the access WR_COMMAND (30_encoding R102). -/
theorem WritesCommand.format_or_access {i : Instr} {v : Byte} (h : WritesCommand i v) :
    (encode i).format = .cmd ∨ ∃ v, i = .wrCommand v :=
  h.symm.imp And.left fun hi => ⟨v, hi⟩

/-- Settles O21, by the cases of `FaultCause`. -/
theorem faultCauses : Obligations.FaultCauses := by
  intro i s t r h hr taskWrite commandWrite
  obtain ⟨hcause, ht⟩ := fault_of_exec h hr
  refine ⟨ht, ?_⟩
  cases hcause with
  | duringReset hs hi => exact ⟨hs, hi.imp writesTaskFile_iff.mp fun ⟨v, hv⟩ => hv.format_or_access⟩
  | commandInFlight hc v hi => exact ⟨hc, hi.format_or_access⟩
  | taskWriteInFlight hc hi => exact ⟨hc, writesTaskFile_iff.mp hi⟩
  | noWindow d hi harmed => exact ⟨d, hi, harmed⟩
  | readMismatch d hi hw => exact ⟨d, .inl ⟨hi, hw⟩⟩
  | writeMismatch d buf hi hw => exact ⟨d, .inr ⟨buf, hi, hw⟩⟩
  | badBuffer d buf hi hlen => exact ⟨d, buf, hi, hlen⟩

/-! ### Refusals -/

/-- A step after which a refusal is recorded records it by its cause (60_exceptions R531). -/
theorem refusal_of_exec {i : Instr} {s t : State} {r : RefuseReason} (h : exec i s = .next t) (hr : t.refused = some r) :
    RefusalCause i (s.setReply .none) r := by
  have hlive : s.refused = none := (live_of_exec h).2
  obtain ⟨u, hu, rfl⟩ := exec_records h
  rw [settle_refused] at hr
  have hnone (hrefused : u.refused = s.refused) : False := by simp [hrefused, hlive] at hr
  cases hu with
  | faulted => exact (hnone rfl).elim
  | refused r' hcause _ hrefused =>
    obtain rfl : r' = r := Option.some.inj (hrefused.symm.trans hr)
    exact hcause
  | acted hact => exact (hnone hact.refused).elim
  | settled _ _ hrefused => exact (hnone hrefused).elim

/-- Settles O22, by the cases of `RefusalCause`, and power-on by its definition. -/
theorem refusalCauses : Obligations.RefusalCauses := by
  refine ⟨fun i s t r h hr => ?_, fun _ => rfl⟩
  cases refusal_of_exec h hr with
  | width blk dir zero off n hi => exact .inl ⟨zero, n, hi, rfl, fun hwf => width_of_wellFormed (hi ▸ hwf)⟩
  | access p hi => exact .inr ⟨p, hi, rfl, rfl, rfl, rfl, fun hwf => meaningless_of_wellFormed (hi ▸ hwf)⟩
  | packet hi => exact hi
  | unsupported v hi hab hwf =>
    refine ⟨hab, hi, fun hwell hmem => ?_⟩
    obtain ⟨hadm, hne⟩ := hwf hwell
    exact (List.mem_append (s := admittedCodes) (t := [0xA0]).mp hmem).elim hadm fun h => hne (List.mem_singleton.mp h)

end Sys2Proof.Machine
end

section
/-! PROOFS. Reset (70_reset_and_hazards R600 to R602, R605; 10_state R55): the values at power-on and after each edge of SRST,
and the invariants from power-on on (10_state R49). -/

namespace Sys2Proof

/-- A well-formed configuration, part by part (40_driver_capability R169). -/
theorem Configuration.wf_iff {cfg : Configuration} :
    cfg.wf = true ↔ cfg.master.conforms = true ∧ cfg.slave.conforms = true ∧ cfg.master.id ≠ cfg.slave.id := by
  simp [Configuration.wf, and_assoc]

end Sys2Proof

namespace Sys2Proof.Machine

/-! ### Power-on -/

/-- Settles O23: the configuration is admitted, and every other field is the one that construction gives it. -/
theorem powerOnValues : Obligations.PowerOnValues := by
  intro cfg hwf
  have hadmitted : (State.powerOn cfg).refused = none := if_pos hwf
  exact ⟨rfl, rfl, rfl, rfl, hadmitted, rfl, ⟨rfl, rfl, rfl, rfl, rfl, rfl, rfl, rfl⟩,
    ⟨rfl, rfl, rfl, rfl, rfl, rfl, rfl, rfl⟩⟩

/-- A device at power-on is sound when its record obeys the contract: its window is idle and its buffer empty. -/
theorem Device.powerOn_sound {drv : Driver} (h : drv.conforms = true) (modes : ModeSets) :
    (Device.powerOn drv modes).Sound where
  windowStart := le_refl _
  windowEnd := le_refl _
  idleWindow _ := rfl
  windowOpen hact := Bool.noConfusion hact
  cursor := le_refl _
  geometry _ := Driver.defaultGeometry_inRange h
  buffer := rfl
  contract := h

/-- The signature leaves sound registers while SRST is clear (10_state R22, R29). -/
theorem Regs.loadSignature_sound {r : Regs} (hs : Machine.srst r.devCtl = false) (drv0 : Driver) :
    (r.loadSignature drv0).Sound where
  busy h := Bool.noConfusion (hs.symm.trans h)
  ready _ := by
    change signatureStatus drv0 = _ ∨ signatureStatus drv0 = _ ∨ signatureStatus drv0 = _ ∨ signatureStatus drv0 = _
    unfold signatureStatus
    split_ifs
    · exact .inl rfl
    · exact .inr (.inr (.inr rfl))
  error := .inr (.inr rfl)

theorem sound_powerOn {cfg : Configuration} (h : cfg.wf = true) : Sound (State.powerOn cfg) := by
  obtain ⟨hmaster, hslave, hids⟩ := Configuration.wf_iff.mp h
  have hdevices : DevicesSound (State.powerOn cfg) :=
    { device := fun d => by
        cases d with
        | master => exact Device.powerOn_sound hmaster _
        | slave => exact Device.powerOn_sound hslave _
      exclusive := hids }
  refine sound_of_settled hdevices (Regs.loadSignature_sound rfl _) rfl fun d => ?_
  cases d <;> rfl

theorem inv_powerOn {cfg : Configuration} (h : cfg.wf = true) (inbox : List Request) (answers : List Bool) :
    Inv { State.powerOn cfg with inbox := inbox, answers := answers } := by
  refine Sound.inv ?_
  exact (sound_powerOn h).congr rfl rfl fun d => by cases d <;> rfl

/-- Settles O11, by the parts of the invariant; the model's own configuration is well formed. -/
theorem powerOnMeetsTheInvariant : Obligations.PowerOnMeetsTheInvariant := by
  have hreset : configurationAtReset.wf = true := by decide
  exact ⟨fun _ inbox answers h => inv_powerOn h inbox answers, inv_powerOn hreset [] []⟩

/-- The whole invariant holds along every run from power-on, by induction on the run. -/
theorem Reached.inv {s : State} (h : Reached s) : Inv s := by
  induction h with
  | powerOn cfg hwf inbox answers => exact inv_powerOn hwf inbox answers
  | step s t _ hstep ih => exact everyStepKeepsTheInvariant s t ih hstep

/-- Settles O12: the invariant of the run holds the eight of R49. -/
theorem reachedStatesMeetTheSpecInvariants : Obligations.ReachedStatesMeetTheSpecInvariants :=
  fun _ h => h.inv.toSpecInvariants

/-! ### Soft reset -/

/-- What a soft reset records of the command in flight (70_reset_and_hazards R601). -/
def abortEvents (cur : Option Command) : List Event :=
  match cur with
  | some c => [.cmdAbort c.opcode c.d]
  | none => []

theorem abandonCommand_eq (s : State) :
    abandonCommand s = { s with cur := none, trace := s.trace ++ abortEvents s.cur } := by
  unfold abandonCommand
  cases h : s.cur with
  | none => simp [abortEvents, ← h]
  | some c => rfl

/-- The whole state after the assertion of soft reset, before the line is settled (70_reset_and_hazards R601). -/
theorem softResetAssert_eq (s : State) :
    softResetAssert s =
      { s with
        regs := { s.regs with status := 0x80 }
        cur := none
        dev0 := { s.dev0.unarmed with pioCursor := 512 }
        dev1 := { s.dev1.unarmed with pioCursor := 512 }
        intPending := false
        trace := s.trace ++ abortEvents s.cur } := by
  rw [softResetAssert, abandonCommand_eq]
  rfl

/-- Settles O24: the line is low after the assertion, since nothing is pending. -/
theorem softResetAssertion : Obligations.SoftResetAssertion := by
  intro s v hl hold hnew
  have heff : wrDevCtl v (s.setReply .none) = softResetAssert ((s.setReply .none).setRegs { s.regs with devCtl := v }) :=
    wrDevCtl_of_rise ⟨hold, hnew⟩
  calc exec (.wrDevCtl v) s = atomically (wrDevCtl v) s := rfl
    _ = _ := by
      rw [atomically_eq_withTrace hl, heff, softResetAssert_eq]
      rfl

/-- Settles O25: the interrupt stays as pending as it was, and nIEN in the byte written decides the line.  (The model's own
effect has the name `softResetRelease`.) -/
theorem softResetReleaseValues : Obligations.SoftResetRelease := by
  intro s v hl hold hnew
  have heff : wrDevCtl v (s.setReply .none) = softResetRelease ((s.setReply .none).setRegs { s.regs with devCtl := v }) :=
    wrDevCtl_of_fall ⟨hold, hnew⟩
  calc exec (.wrDevCtl v) s = atomically (wrDevCtl v) s := rfl
    _ = _ := by
      rw [atomically_eq_withTrace hl, heff]
      rfl

end Sys2Proof.Machine
end

section
/-! PROOFS. A Data read by one access or by two (20_memory R71, R73): the value of a run of bytes is put together from the
values of its parts, and so is the state that the accesses leave. -/

namespace Sys2Proof

/-- A run of bytes is its first part and then the rest. -/
theorem Memory.readBytes_add (m : Memory) (a n k : Nat) :
    m.readBytes a (n + k) = m.readBytes a n ++ m.readBytes (a + n) k := by
  simp [Memory.readBytes, List.range_add, Nat.add_assoc, Function.comp_def]

end Sys2Proof

namespace Sys2Proof.Machine

/-! ### The value of a run of bytes -/

/-- The first byte is the lowest, as long as the value holds them all (20_memory R71). -/
theorem leValue_cons_toNat (b : Byte) {bs : List Byte} (h : bs.length < 4) :
    (leValue (b :: bs)).toNat = b.toNat + 2 ^ 8 * (leValue bs).toNat := by
  have hb : b.toNat < 2 ^ 8 := b.isLt
  have hfits : (leValue bs).toNat * 2 ^ 8 < 2 ^ 32 := by
    have hlt : (leValue bs).toNat < 2 ^ 24 := (leValue_lt bs).trans_le (Nat.pow_le_pow_right (by decide) (by omega))
    omega
  change ((leValue bs <<< 8) ||| b.setWidth 32).toNat = _
  rw [BitVec.toNat_or, BitVec.toNat_shiftLeft, Nat.shiftLeft_eq, Nat.mod_eq_of_lt hfits, BitVec.toNat_setWidth,
    Nat.mod_eq_of_lt (by omega), Nat.mul_comm, ← Nat.two_pow_add_eq_or_of_lt hb]
  omega

/-- The value of a run of bytes, from the values of its two parts (20_memory R71, R73). -/
theorem leValue_append_toNat {bs cs : List Byte} (h : bs.length + cs.length ≤ 4) :
    (leValue (bs ++ cs)).toNat = (leValue bs).toNat + 2 ^ (8 * bs.length) * (leValue cs).toNat := by
  induction bs with
  | nil => simp [leValue]
  | cons b bs ih =>
    simp only [List.length_cons] at h ⊢
    have hpow : 2 ^ (8 * (bs.length + 1)) = 2 ^ 8 * 2 ^ (8 * bs.length) := by rw [← pow_add]; congr 1; omega
    rw [List.cons_append, leValue_cons_toNat b (by simp; omega), leValue_cons_toNat b (by omega), ih (by omega), hpow]
    ring

/-! ### A read inside the buffer -/

/-- Inside the buffer the value of a read is that of the buffer's bytes alone. -/
theorem State.dataValue_of_le (s : State) {D : Device} {n : Nat} (h : D.pioCursor + n ≤ 512) :
    s.dataValue D n = leValue (D.pioBuf.readBytes D.pioCursor n) := by
  rw [State.dataValue, Device.readBuffer, Device.moveCount_of_le h]
  simp [State.drawBytes]

/-- The channel with the cursor of a device's buffer moved. -/
def State.atCursor (s : State) (d : Slot) (k : Nat) : State := s.setDev d { s.dev d with pioCursor := k }

theorem State.atCursor_atCursor (s : State) (d : Slot) (r : Reply) (j k : Nat) :
    ((s.atCursor d j).setReply r).atCursor d k = (s.atCursor d k).setReply r := by
  cases d <;> rfl

/-- The channel after the data-in command `c` has read its block up to byte `k`: at the end of the block the command ends in
success (42_command_engine R256). -/
def State.readUpTo (s : State) (c : Command) (k : Nat) : State :=
  if k = 512 then pioInComplete c (s.atCursor c.d k) else s.atCursor c.d k

theorem State.readUpTo_of_ne {s : State} {c : Command} {k : Nat} (h : k ≠ 512) : s.readUpTo c k = s.atCursor c.d k :=
  if_neg h

/-- Where the block is read up to does not depend on where it was read up to before, short of its end. -/
theorem State.readUpTo_atCursor (s : State) (c : Command) (r : Reply) (j k : Nat) :
    ((s.atCursor c.d j).setReply r).readUpTo c k = (s.readUpTo c k).setReply r := by
  rw [State.readUpTo, State.readUpTo, State.atCursor_atCursor]
  split_ifs <;> rfl

/-- A Data read inside the buffer reads the block on by its width and returns the bytes it passed. -/
theorem atomically_rdData_of_le {s : State} {c : Command} (hl : s.live) (hc : s.cur = some c) (hp : c.proto = .pioIn)
    {k : Nat} {buf : Block} (hcursor : (s.dev c.d).pioCursor = k) (hbuf : (s.dev c.d).pioBuf = buf) {n : Width}
    (h : k + n.bytes ≤ 512) :
    atomically (rdData n) s = .next
      ((s.readUpTo c (k + n.bytes)).setReply (.value n (leValue (buf.readBytes k n.bytes)))) := by
  subst hcursor hbuf
  have hafter : s.afterDataRead c.d n = (s.atCursor c.d ((s.dev c.d).pioCursor + n.bytes)).setReply
      (.value n (leValue ((s.dev c.d).pioBuf.readBytes (s.dev c.d).pioCursor n.bytes))) := by
    rw [State.afterDataRead_eq, Device.moveCount_of_le h, s.dataValue_of_le h, Nat.sub_self]
    cases c.d <;> rfl
  rw [atomically_rdData_of_open hl hc hp n, Device.moveCount_of_le h, hafter, State.readUpTo]
  split_ifs <;> rfl

/-- A Data read that goes on where the one before it stopped, short of the end, leaves what one read up to there leaves. -/
theorem atomically_rdData_atCursor {s : State} {c : Command} (hl : s.live) (hc : s.cur = some c) (hp : c.proto = .pioIn)
    {j : Nat} (r : Reply) {n : Width} (h : j + n.bytes ≤ 512) :
    atomically (rdData n) ((s.atCursor c.d j).setReply r) = .next
      ((s.readUpTo c (j + n.bytes)).setReply (.value n (leValue ((s.dev c.d).pioBuf.readBytes j n.bytes)))) := by
  have hlive : ((s.atCursor c.d j).setReply r).live :=
    ⟨(State.setDev_fault _ _ _).trans hl.1, (State.setDev_refused _ _ _).trans hl.2⟩
  have hcur : ((s.atCursor c.d j).setReply r).cur = some c := (State.setDev_cur _ _ _).trans hc
  have hdev : ((s.atCursor c.d j).setReply r).dev c.d = { s.dev c.d with pioCursor := j } :=
    (State.setReply_dev _ _ _).trans (State.setDev_dev_same s c.d _)
  rw [atomically_rdData_of_le hlive hcur hp (congrArg Device.pioCursor hdev) (congrArg Device.pioBuf hdev) h,
    State.readUpTo_atCursor]
  rfl

/-- Settles O36: the four bytes at the cursor are two and then two, and both ways read the block up to the same byte. -/
theorem dataPortWidthsAgree : Obligations.DataPortWidthsAgree := by
  intro s c hl hc hp hle
  generalize hcursor : (s.dev c.d).pioCursor = k at hle
  generalize hbuf : (s.dev c.d).pioBuf = buf
  have hfour : exec .rdDataD s =
      .next ((s.readUpTo c (k + 4)).setReply (.value .four (leValue (buf.readBytes k 4)))) :=
    atomically_rdData_of_le hl hc hp hcursor hbuf (n := .four) hle
  have hlow : exec .rdDataW s =
      .next ((s.atCursor c.d (k + 2)).setReply (.value .two (leValue (buf.readBytes k 2)))) := by
    rw [← State.readUpTo_of_ne (by omega)]
    exact atomically_rdData_of_le hl hc hp hcursor hbuf (n := .two) (show k + 2 ≤ 512 by omega)
  have hhigh : exec .rdDataW ((s.atCursor c.d (k + 2)).setReply (.value .two (leValue (buf.readBytes k 2)))) =
      .next ((s.readUpTo c (k + 4)).setReply (.value .two (leValue (buf.readBytes (k + 2) 2)))) :=
    hbuf ▸ atomically_rdData_atCursor hl hc hp _ (n := .two) hle
  have hvalue : (leValue (buf.readBytes k 4)).toNat
      = (leValue (buf.readBytes k 2)).toNat + 2 ^ 16 * (leValue (buf.readBytes (k + 2) 2)).toNat := by
    rw [Memory.readBytes_add buf k 2 2, leValue_append_toNat (by simp), Memory.length_readBytes]
  exact ⟨_, _, _, _, _, _, hfour, rfl, hlow, rfl, hhigh, rfl, hvalue, rfl⟩

end Sys2Proof.Machine
end
